-- ==== Sys2Proof/Word.lean ====
section
/-!
DEFINITION. The word types: bytes, 64-bit register words, and byte strings (00_scope.md R6, R10, R13).
-/

namespace Sys2Proof

/-- A byte, with 8-bit wraparound arithmetic (00_scope.md R10). -/
abbrev Byte := BitVec 8

/-- A register word: every register, length and value is 64 bits wide (00_scope.md R6). -/
abbrev Word := BitVec 64

/-- A finite list of bytes; element 0 is the first (00_scope.md R13). -/
abbrev Bytes := List Byte

/-- The 64-bit word of a number below 2^64; larger numbers keep their low 64 bits. -/
def word (n : Nat) : Word := BitVec.ofNat 64 n

/-- The byte `u8(n) = n mod 256` (00_scope.md R10). -/
def u8 (n : Nat) : Byte := BitVec.ofNat 8 n

end Sys2Proof
end

