-- ==== Sys2Proof/Syntax.lean ====
section
/-!
DEFINITION. The syntax: the eleven commands, the registers by name, the host's bus transactions, the
turns in which the agents move, and the host-program notation.
-/

namespace Sys2Proof

/-- The commands of 30_encoding.md R73. A command has no operand fields: its operands are LEN, VALUE
and BUF[0..LEN) (R71). -/
inductive Instr where
  | vlqEnc | vlqDec | padsize | build | buildz | parse | reseal | mix | encode | decode | decodeView
deriving DecidableEq, Repr

/-- The command's mnemonic (30_encoding.md R73, R81). -/
def Instr.mnemonic : Instr → String
  | .vlqEnc => "VLQ_ENC"
  | .vlqDec => "VLQ_DEC"
  | .padsize => "PADSIZE"
  | .build => "BUILD"
  | .buildz => "BUILDZ"
  | .parse => "PARSE"
  | .reseal => "RESEAL"
  | .mix => "MIX"
  | .encode => "ENCODE"
  | .decode => "DECODE"
  | .decodeView => "DECODE_VIEW"

/-- The eleven registers of the register map (10_state.md R23). -/
inductive Reg where
  | cmd | status | ctrl | len | value | rlen | poff | plen | einfo0 | einfo1 | einfo2
deriving DecidableEq, Repr

/-- The two address spaces (20_memory.md R50). -/
inductive Space where
  | reg | buf
deriving DecidableEq, Repr

/-- The direction of a bus transaction, with the data a write carries: the whole word in the REG
space, the low 8 bits in the BUF space (30_encoding.md R82; log 9). -/
inductive Dir where
  | read
  | write (data : Word)
deriving DecidableEq, Repr

/-- One host bus transaction `(space, offset, width, direction, data)` (30_encoding.md R82). The width
is in bits. Any numbers may stand here: the bus decides which accesses are legal (20_memory.md R55). -/
structure Access where
  space : Space
  offset : Nat
  width : Nat
  dir : Dir
deriving DecidableEq, Repr

/-- Who moves in one step (10_state.md R20, R43; 70_reset_and_hazards.md R230; log 3, log 11). -/
inductive Turn where
  /-- The host's next access takes effect. -/
  | host (a : Access)
  /-- The host issues nothing: the block takes its step, if it has one. -/
  | block
  /-- The platform applies power-on reset. -/
  | powerOn
deriving DecidableEq, Repr

/-- A value a host read returned, which the program records (30_encoding.md R82; log 4). -/
inductive HostRead where
  | reg (v : Word)
  | buf (b : Byte)
deriving DecidableEq, Repr

/-- One line of the host-program notation (30_encoding.md R82, R83). An illegal word `.cmd 0x..` is
`wr .cmd w`. `wait polls` is WAIT with `polls` STATUS reads before the execution step is sure to have
come, and one after it (log 13). -/
inductive HostLine where
  | wr (r : Reg) (v : Word)
  | rd (r : Reg)
  | wb (off : Nat) (bs : Bytes)
  | rb (off k : Nat)
  | cmd (i : Instr)
  | wait (polls : Nat)
  | ack
deriving DecidableEq, Repr

end Sys2Proof
end

