-- ==== Sys2Proof/WellFormed.lean ====
section
/-!
DEFINITION. Which command words and which bus transactions the spec calls legal. These checks are
written from the rules and not from the decoder or the bus, which are compared with them.
-/

namespace Sys2Proof

/-- A legal command word: RSVD is 0 and OP is an assigned opcode (30_encoding.md R70, R73). -/
def WellFormed.commandWord (w : Word) : Bool :=
  w.extractLsb' 8 56 == 0 && 1 ≤ (w.extractLsb' 0 8).toNat && (w.extractLsb' 0 8).toNat ≤ 11

/-- A legal REG access: 64 bits wide, at a multiple of 8 in 0x00..0xF8 (20_memory.md R53). -/
def WellFormed.regAccess (offset width : Nat) : Bool :=
  width == 64 && offset % 8 == 0 && offset ≤ 0xF8

/-- A legal BUF access for capacity `cap`: 8 bits wide, at an offset below `cap` (20_memory.md R54). -/
def WellFormed.bufAccess (cap offset width : Nat) : Bool :=
  width == 8 && offset < cap

/-- A bus transaction that is no access error (20_memory.md R53 to R55). -/
def WellFormed.access (cap : Nat) (a : Access) : Bool :=
  match a.space with
  | .reg => WellFormed.regAccess a.offset a.width
  | .buf => WellFormed.bufAccess cap a.offset a.width

end Sys2Proof
end

