-- ==== Sys2Proof/Decode.lean ====
section
/-!
DEFINITION. Decoding: the command word, the register offsets; then the encoders: the command word of a
command, and the bus transactions of a host-program line.
-/

namespace Sys2Proof

/-- The opcode map (30_encoding.md R73). Opcode 0x00 and 0x0C to 0xFF are reserved (R75). -/
def decodeOpcode (op : Byte) : Option Instr :=
  match op.toNat with
  | 0x01 => some .vlqEnc
  | 0x02 => some .vlqDec
  | 0x03 => some .padsize
  | 0x04 => some .build
  | 0x05 => some .buildz
  | 0x06 => some .parse
  | 0x07 => some .reseal
  | 0x08 => some .mix
  | 0x09 => some .encode
  | 0x0A => some .decode
  | 0x0B => some .decodeView
  | _ => none

/-- `Decode(w)` of 30_encoding.md R74; `none` is ILLEGAL. -/
def decodeCommand (w : Word) : Option Instr :=
  if w.extractLsb' 8 56 ≠ 0 then none else decodeOpcode (w.extractLsb' 0 8)

/-- What the decoder reads from an instruction whose bits are `w`, `nbits` of them given by the opcode
table and 0 above. A command is one 64-bit word (30_encoding.md R72), so a number of more than 64 bits
is none. -/
def decodeTableWord (nbits w : Nat) : Option Instr :=
  if w % 2 ^ nbits < 2 ^ 64 then decodeCommand (word (w % 2 ^ nbits)) else none

/-- The register at an offset of the register space; `none` is a reserved offset (10_state.md R23,
R39). -/
def regAt (offset : Nat) : Option Reg :=
  match offset with
  | 0x00 => some .cmd
  | 0x08 => some .status
  | 0x10 => some .ctrl
  | 0x18 => some .len
  | 0x20 => some .value
  | 0x28 => some .rlen
  | 0x30 => some .poff
  | 0x38 => some .plen
  | 0x40 => some .einfo0
  | 0x48 => some .einfo1
  | 0x50 => some .einfo2
  | _ => none

/-- A command's opcode (30_encoding.md R73). -/
def opcodeOf : Instr → Byte
  | .vlqEnc => 0x01
  | .vlqDec => 0x02
  | .padsize => 0x03
  | .build => 0x04
  | .buildz => 0x05
  | .parse => 0x06
  | .reseal => 0x07
  | .mix => 0x08
  | .encode => 0x09
  | .decode => 0x0A
  | .decodeView => 0x0B

/-- The command word of a command: its opcode zero-extended to 64 bits (30_encoding.md R70, R74). -/
def encode (i : Instr) : Word := (opcodeOf i).setWidth 64

/-- The offset of a register (10_state.md R23). -/
def offsetOf : Reg → Nat
  | .cmd => 0x00
  | .status => 0x08
  | .ctrl => 0x10
  | .len => 0x18
  | .value => 0x20
  | .rlen => 0x28
  | .poff => 0x30
  | .plen => 0x38
  | .einfo0 => 0x40
  | .einfo1 => 0x48
  | .einfo2 => 0x50

/-- The 64-bit write of `v` to a register (20_memory.md R53). -/
def regWriteAccess (r : Reg) (v : Word) : Access := ⟨.reg, offsetOf r, 64, .write v⟩

/-- The 64-bit read of a register (20_memory.md R53). -/
def regReadAccess (r : Reg) : Access := ⟨.reg, offsetOf r, 64, .read⟩

/-- The 8-bit write of `b` to BUF offset `i` (20_memory.md R54). -/
def bufWriteAccess (i : Nat) (b : Byte) : Access := ⟨.buf, i, 8, .write (b.setWidth 64)⟩

/-- The 8-bit read of BUF offset `i` (20_memory.md R54). -/
def bufReadAccess (i : Nat) : Access := ⟨.buf, i, 8, .read⟩

/-- The 8-bit writes of `bs` at `off`, `off + 1`, and so on (30_encoding.md R82, WB). -/
def bufWriteTurns (off : Nat) : Bytes → List Turn
  | [] => []
  | b :: bs => .host (bufWriteAccess off b) :: bufWriteTurns (off + 1) bs

/-- The bus transactions a host-program line stands for (30_encoding.md R82). -/
def expandLine : HostLine → List Turn
  | .wr r v => [.host (regWriteAccess r v)]
  | .rd r => [.host (regReadAccess r)]
  | .wb off bs => bufWriteTurns off bs
  | .rb off k => (List.range' off k).map fun i => .host (bufReadAccess i)
  | .cmd i => [.host (regWriteAccess .cmd (encode i))]
  | .wait polls =>
    List.replicate polls (.host (regReadAccess .status)) ++
      [.block, .host (regReadAccess .status)]
  | .ack => [.host (regWriteAccess .status 0x2)]

/-- The turns of a host program: those of its lines, one after the other (30_encoding.md R82). -/
def expandProgram (lines : List HostLine) : List Turn := lines.flatMap expandLine

end Sys2Proof
end

