-- ==== Sys2Proof/Config.lean ====
section
/-!
DEFINITION. What an implementation or a platform fixes, and the values the spec leaves open.
Every `opaque` constant has no body: nothing can be proved of its value.
-/

namespace Sys2Proof

/-- The open choice behind `Config.bufCap` (00_scope.md R7, 93_implementation_defined.md U11). -/
opaque Config.bufCapChoice : Nat

/-- BUF_CAP, the buffer's capacity in bytes: an open number that takes every value from 16 to
2^64 - 1 as `Config.bufCapChoice` varies (00_scope.md R7; log 2). -/
def Config.bufCap : Nat := Config.bufCapChoice % (2 ^ 64 - 16) + 16

/-- The unspecified byte that offset `offset` of BUF holds after drawing number `draw` of unknown
contents: power-on reset, or a soft reset taken while BUSY
(93_implementation_defined.md U1, U2; log 1). -/
opaque Config.unknownByte (draw offset : Nat) : Byte

/-- The unspecified value of the `k`-th drawn register read made while BUSY
(20_memory.md R56, 93_implementation_defined.md U3; log 5). -/
opaque Config.busyWord (k : Nat) : Word

/-- The unspecified value of the `k`-th drawn BUF read made while BUSY
(20_memory.md R56, 93_implementation_defined.md U3; log 5). -/
opaque Config.busyByte (k : Nat) : Byte

/-- REG_BASE, the platform's base address of the register space (00_scope.md R8). -/
opaque Config.regBase : Nat

/-- BUF_BASE, the platform's base address of the buffer space (00_scope.md R8). -/
opaque Config.bufBase : Nat

end Sys2Proof
end

