-- ==== Sys2Proof/Machine/State.lean ====
section
/-!
DEFINITION. The machine's state, its fault and refusal reasons, and the state after power-on reset.
-/

namespace Sys2Proof.Machine

/-- BUF as the bytes that have been written since its contents were last drawn: (offset, byte) pairs,
offsets strictly rising. An offset that is not listed holds an unspecified byte (10_state.md R47;
20_memory.md R67; log 1). -/
abbrev Memory := List Host.Cell

/-- The state of the block (10_state.md R47), of its parameter BUF_CAP, and of the agents around it. -/
structure State where
  /-- STATUS[0]: a command is pending (10_state.md R30). -/
  busy : Bool
  /-- STATUS[1]: a command has completed (10_state.md R27). -/
  done : Bool
  /-- STATUS[2]: the last completed command failed (10_state.md R28). -/
  err : Bool
  /-- STATUS[3]: a host write was dropped (10_state.md R29). -/
  ovr : Bool
  /-- STATUS[15:8]: the error code (10_state.md R28; 60_exceptions.md R200). -/
  errcode : Byte
  /-- STATUS[23:16]: OP of the last accepted command word (10_state.md R31). -/
  lastop : Byte
  /-- CTRL[0]: completion interrupt enable (10_state.md R32). -/
  ie : Bool
  /-- LEN (10_state.md R33). -/
  len : Word
  /-- VALUE (10_state.md R34). -/
  value : Word
  /-- RLEN (10_state.md R35). -/
  rlen : Word
  /-- POFF (10_state.md R36). -/
  poff : Word
  /-- PLEN (10_state.md R37). -/
  plen : Word
  /-- EINFO0 (10_state.md R38). -/
  einfo0 : Word
  /-- EINFO1 (10_state.md R38). -/
  einfo1 : Word
  /-- EINFO2 (10_state.md R38). -/
  einfo2 : Word
  /-- PENDING, the accepted command word (10_state.md R45). -/
  pending : Word
  /-- BUF, the bytes written since the last drawing (10_state.md R40). -/
  buf : Memory
  /-- BUF_CAP, the parameter of 00_scope.md R7; no step changes it (log 2). -/
  bufCap : Nat
  /-- The model's own: which drawing of unknown BUF contents is in force (log 1). -/
  bufDraw : Nat
  /-- The model's own: how many unspecified read values have been drawn (log 5). -/
  readDraw : Nat
  /-- The model's own: who moves in the steps to come, with the host's accesses in program order
  (20_memory.md R63; log 3). -/
  turns : List Turn
  /-- The model's own: the values the host's reads returned, newest first (log 4). -/
  hostReads : List HostRead
deriving DecidableEq, Repr

/-- Why a step stops with a fault. -/
inductive Fault where
  /-- The host made an access outside 20_memory.md R53 and R54 (R55). Raised by the bus. Safe: the
  access has no effect, and the model stops where the hardware answers with an error response
  (log 6). -/
  | accessError (a : Access)
deriving DecidableEq, Repr

/-- Why a step is refused. -/
inductive Refusal where
  /-- The command has no meaning in this model. Raised by the dispatcher alone. Safe: nothing is
  claimed of it. No command of this model is refused. -/
  | notModelled (mnemonic : String)
deriving DecidableEq, Repr

/-- The state after power-on reset: every register 0, BUF unspecified (10_state.md R47;
70_reset_and_hazards.md R230). The model's own fields start at 0 or empty (log 1, 3, 4, 5), BUF_CAP
is the parameter (log 2). -/
def State.reset : State where
  busy := false
  done := false
  err := false
  ovr := false
  errcode := 0
  lastop := 0
  ie := false
  len := 0
  value := 0
  rlen := 0
  poff := 0
  plen := 0
  einfo0 := 0
  einfo1 := 0
  einfo2 := 0
  pending := 0
  buf := []
  bufCap := Config.bufCap
  bufDraw := 0
  readDraw := 0
  turns := []
  hostReads := []

end Sys2Proof.Machine
end

