-- ==== Sys2Proof/Machine/Flags.lean ====
section
/-!
DEFINITION. The STATUS and CTRL words, the interrupt level, the command errors with their codes and
information words, and the STATUS update of a completing command.
-/

namespace Sys2Proof.Machine

/-- STATUS as the host reads it: BUSY [0], DONE [1], ERR [2], OVR [3], ERRCODE [15:8], LASTOP [23:16],
every other bit 0 (10_state.md R26). -/
def State.statusWord (s : State) : Word :=
  (0 : BitVec 40) ++ s.lastop ++ s.errcode ++ (0 : BitVec 4) ++
    BitVec.ofBool s.ovr ++ BitVec.ofBool s.err ++ BitVec.ofBool s.done ++ BitVec.ofBool s.busy

/-- CTRL as the host reads it: IE [0], every other bit 0, SRST included (10_state.md R32). -/
def State.ctrlWord (s : State) : Word := (0 : BitVec 63) ++ BitVec.ofBool s.ie

/-- The interrupt output, a level: IE and DONE (10_state.md R41; 60_exceptions.md R210). -/
def State.irq (s : State) : Bool := s.ie && s.done

/-- A number saturated at 2^64 - 1 (60_exceptions.md R200, R206). -/
def sat64 (n : Nat) : Word := word (min n (2 ^ 64 - 1))

/-- A command error with the information it carries (60_exceptions.md R200 to R207). Sizes are exact
numbers; they are saturated when they are written to a register. -/
inductive CmdError where
  /-- NOT_ALIGNED: the offending length (R203). -/
  | notAligned (length : Nat)
  /-- BAD_LENGTH_FIELD: the subcode and the byte offset (R205). -/
  | badLengthField (sub off : Nat)
  /-- UNEXPECTED_PADDED_LENGTH: the decoded `n`, the expected and the actual length (R206). -/
  | unexpectedPaddedLength (n expected actual : Nat)
  /-- INVALID_CHECKSUM: the absolute offset of the first failing byte (R207). -/
  | invalidChecksum (off : Nat)
  /-- ILLEGAL_COMMAND: the command word (R202). -/
  | illegalCommand (w : Word)
  /-- RANGE: the subcode and the offending size (R201). -/
  | range (sub size : Nat)
deriving DecidableEq, Repr

/-- The error code written to ERRCODE (60_exceptions.md R200). -/
def errorCode : CmdError → Byte
  | .notAligned _ => 1
  | .badLengthField _ _ => 2
  | .unexpectedPaddedLength _ _ _ => 3
  | .invalidChecksum _ => 4
  | .illegalCommand _ => 5
  | .range _ _ => 6

/-- EINFO0 of an error (60_exceptions.md R200). -/
def errorInfo0 : CmdError → Word
  | .notAligned length => word length
  | .badLengthField sub _ => word sub
  | .unexpectedPaddedLength n _ _ => word n
  | .invalidChecksum off => word off
  | .illegalCommand w => w
  | .range sub _ => word sub

/-- EINFO1 of an error; 0 where the error leaves it unused (60_exceptions.md R200). -/
def errorInfo1 : CmdError → Word
  | .notAligned _ => 0
  | .badLengthField _ off => word off
  | .unexpectedPaddedLength _ expected _ => sat64 expected
  | .invalidChecksum _ => 0
  | .illegalCommand _ => 0
  | .range _ size => sat64 size

/-- EINFO2 of an error; 0 where the error leaves it unused (60_exceptions.md R200). -/
def errorInfo2 : CmdError → Word
  | .notAligned _ => 0
  | .badLengthField _ _ => 0
  | .unexpectedPaddedLength _ _ actual => word actual
  | .invalidChecksum _ => 0
  | .illegalCommand _ => 0
  | .range _ _ => 0

/-- The STATUS update of an execution step: ERRCODE gets the code, ERR gets whether it is not 0, BUSY
falls and DONE rises (10_state.md R28, R43). -/
def State.finish (s : State) (code : Byte) : State :=
  { s with errcode := code, err := code != 0, busy := false, done := true }

end Sys2Proof.Machine
end

