-- ==== Sys2Proof/Machine/Ops.lean ====
section
/-!
DEFINITION. The named operations over BUF and the registers; completing a command; completing with an
error, and its acknowledgement; accepting a command; the two resets.
-/

namespace Sys2Proof.Machine

/-- The byte listed at an offset, if one is. -/
def Memory.read? (m : Memory) (a : Nat) : Option Byte :=
  match m with
  | [] => none
  | (k, b) :: rest => if k = a then some b else Memory.read? rest a

/-- Lists a byte at an offset, in the place that keeps the offsets rising. -/
def Memory.write (m : Memory) (a : Nat) (b : Byte) : Memory :=
  match m with
  | [] => [(a, b)]
  | (k, v) :: rest =>
    if a < k then (a, b) :: (k, v) :: rest
    else if a = k then (a, b) :: rest
    else (k, v) :: Memory.write rest a b

/-- Lists bytes at consecutive offsets from `a` on. -/
def Memory.writeAll (m : Memory) (a : Nat) (bs : Bytes) : Memory :=
  match bs with
  | [] => m
  | b :: rest => Memory.writeAll (Memory.write m a b) (a + 1) rest

/-- The canonical form: offsets strictly rising, so that no offset is listed twice and equal lists are
equal buffers. An unlisted offset reads as no listed byte, so no entry repeats it (log 1). -/
abbrev Memory.wf (m : Memory) : Prop := (m.map Prod.fst).Pairwise (· < ·)

/-- Every listed offset is an offset of BUF (20_memory.md R51). -/
abbrev Memory.within (cap : Nat) (m : Memory) : Prop := ∀ c ∈ m, c.1 < cap

/-- BUF[i]: the byte last written there, or the unspecified byte the last drawing put there
(20_memory.md R67; log 1). -/
def State.byteAt (s : State) (i : Nat) : Byte :=
  (Memory.read? s.buf i).getD (Config.unknownByte s.bufDraw i)

/-- `MemRead(a, k) = BUF[a..a+k)` (00_scope.md R14; log 14). -/
def State.memRead (s : State) (a k : Nat) : Bytes := (List.range' a k).map s.byteAt

/-- `MemWrite(a, len(bs), bs)` (00_scope.md R14; log 14). -/
def State.memWrite (s : State) (a : Nat) (bs : Bytes) : State :=
  { s with buf := Memory.writeAll s.buf a bs }

/-- `REG[VALUE] <- v`. -/
def State.setValue (s : State) (v : Word) : State := { s with value := v }

/-- `REG[LEN] <- v`. -/
def State.setLen (s : State) (v : Word) : State := { s with len := v }

/-- `REG[RLEN] <- v`. -/
def State.setRlen (s : State) (v : Word) : State := { s with rlen := v }

/-- `REG[POFF] <- v`. -/
def State.setPoff (s : State) (v : Word) : State := { s with poff := v }

/-- `REG[PLEN] <- v`. -/
def State.setPlen (s : State) (v : Word) : State := { s with plen := v }

/-- RLEN, POFF and PLEN of a frame: its length, its prefix size and its payload size
(10_state.md R35 to R37). -/
def State.setFrame (s : State) (size prefixLen payloadLen : Nat) : State :=
  ((s.setRlen (word size)).setPoff (word prefixLen)).setPlen (word payloadLen)

/-- `complete`: the command ends successfully (00_scope.md R14; 10_state.md R43). -/
def State.completed (s : State) : State := s.finish 0

/-- `raise E(info)`: the command completes with an error. EINFO0 to EINFO2 receive the information,
STATUS the code; RLEN, POFF, PLEN, VALUE, LEN, CTRL and BUF stay as they are
(60_exceptions.md R204). -/
def State.raised (s : State) (e : CmdError) : State :=
  { s with einfo0 := errorInfo0 e, einfo1 := errorInfo1 e, einfo2 := errorInfo2 e }.finish
    (errorCode e)

/-- The host's write to STATUS: bit 1 clears DONE, bit 3 clears OVR, every other bit is ignored
(10_state.md R26). With bit 1 set this is the acknowledgement of a completion, which is all the
return from an error there is (60_exceptions.md R211). -/
def State.writeStatus (s : State) (v : Word) : State :=
  { s with done := s.done && !v.getLsbD 1, ovr := s.ovr && !v.getLsbD 3 }

/-- Command acceptance (10_state.md R42). -/
def State.accept (s : State) (w : Word) : State :=
  { s with
    done := false, err := false, errcode := 0
    lastop := w.extractLsb' 0 8
    rlen := 0, poff := 0, plen := 0
    einfo0 := 0, einfo1 := 0, einfo2 := 0
    pending := w
    busy := true }

/-- Every register and field at its reset value, PENDING too (10_state.md R47). -/
def State.clearRegisters (s : State) : State :=
  { s with
    busy := false, done := false, err := false, ovr := false, errcode := 0, lastop := 0
    ie := false
    len := 0, value := 0
    rlen := 0, poff := 0, plen := 0
    einfo0 := 0, einfo1 := 0, einfo2 := 0
    pending := 0 }

/-- Every BUF byte becomes an unspecified value, drawn anew (93_implementation_defined.md U1, U2;
log 1). -/
def State.drawBuf (s : State) : State := { s with buf := [], bufDraw := s.bufDraw + 1 }

/-- `SoftReset()` (70_reset_and_hazards.md R232): BUF is unspecified after it if BUSY was 1, unchanged
if BUSY was 0. -/
def State.softReset (s : State) : State :=
  if s.busy then s.clearRegisters.drawBuf else s.clearRegisters

/-- Power-on reset (70_reset_and_hazards.md R230; log 11). -/
def State.powerOnReset (s : State) : State := s.clearRegisters.drawBuf

/-- The host's write to CTRL: SRST performs the soft reset and bit 0 is then ignored; otherwise IE gets
bit 0 (10_state.md R32). -/
def State.writeCtrl (s : State) (v : Word) : State :=
  if v.getLsbD 1 then s.softReset else { s with ie := v.getLsbD 0 }

/-- A host write dropped because BUSY is 1: OVR is set and nothing else changes (10_state.md R29). -/
def State.dropWrite (s : State) : State := { s with ovr := true }

/-- The turn just taken is no longer to come (log 3). -/
def State.nextTurn (s : State) : State := { s with turns := s.turns.tail }

/-- The program records a value a read returned (30_encoding.md R82; log 4). -/
def State.record (s : State) (r : HostRead) : State := { s with hostReads := r :: s.hostReads }

/-- The next unspecified read value is another one (20_memory.md R56; log 5). -/
def State.drawRead (s : State) : State := { s with readDraw := s.readDraw + 1 }

end Sys2Proof.Machine
end

