-- ==== Sys2Proof/Machine/Bus.lean ====
section
/-!
DEFINITION. The host's side of the block: which accesses are legal, what a read returns, what a write
does, while IDLE and while BUSY (10_state.md R23 to R42; 20_memory.md R53 to R58).
-/

namespace Sys2Proof.Machine

/-- A legal host access. The register `none` is a reserved offset (10_state.md R39). -/
inductive BusOp where
  | readReg (r : Option Reg)
  | writeReg (r : Option Reg) (v : Word)
  | readBuf (i : Nat)
  | writeBuf (i : Nat) (b : Byte)
deriving DecidableEq, Repr

/-- A bus transaction as a legal access of a block of capacity `cap`; `none` is an access error: a REG
access that is not 64 bits wide, not 8-byte aligned or above 0xFF, a BUF access that is not 8 bits wide
or at or above BUF_CAP (20_memory.md R53 to R55). -/
def busOp (cap : Nat) (a : Access) : Option BusOp :=
  match a.space with
  | .reg =>
    if a.width ≠ 64 ∨ a.offset % 8 ≠ 0 ∨ 0xFF < a.offset then none
    else
      match a.dir with
      | .read => some (.readReg (regAt a.offset))
      | .write v => some (.writeReg (regAt a.offset) v)
  | .buf =>
    if a.width ≠ 8 ∨ cap ≤ a.offset then none
    else
      match a.dir with
      | .read => some (.readBuf a.offset)
      | .write v => some (.writeBuf a.offset (v.setWidth 8))

/-- The host address of a transaction: the platform's base of its space plus its offset. Nothing in the
block depends on it (00_scope.md R8; 20_memory.md R61). -/
def hostAddress (a : Access) : Nat :=
  match a.space with
  | .reg => Config.regBase + a.offset
  | .buf => Config.bufBase + a.offset

/-- The exact value of a register as the host reads it; CMD and the reserved offsets read 0
(10_state.md R24 to R39). -/
def State.regValue (s : State) : Option Reg → Word
  | none => 0
  | some .cmd => 0
  | some .status => s.statusWord
  | some .ctrl => s.ctrlWord
  | some .len => s.len
  | some .value => s.value
  | some .rlen => s.rlen
  | some .poff => s.poff
  | some .plen => s.plen
  | some .einfo0 => s.einfo0
  | some .einfo1 => s.einfo1
  | some .einfo2 => s.einfo2

/-- The registers that read exactly while BUSY; the others read as unspecified values
(20_memory.md R56). -/
def exactWhileBusy : Option Reg → Bool
  | none => true
  | some .cmd => true
  | some .status => true
  | some .ctrl => true
  | some .len => true
  | some .value => false
  | some .rlen => false
  | some .poff => false
  | some .plen => false
  | some .einfo0 => false
  | some .einfo1 => false
  | some .einfo2 => false

/-- A host register read. It changes no register and no BUF byte (20_memory.md R56, R57). -/
def State.readReg (s : State) (r : Option Reg) : State :=
  if s.busy && !exactWhileBusy r then (s.record (.reg (Config.busyWord s.readDraw))).drawRead
  else s.record (.reg (s.regValue r))

/-- A host register write (10_state.md R24 to R42; 20_memory.md R56). -/
def State.writeReg (s : State) (r : Option Reg) (v : Word) : State :=
  match r with
  | some .cmd => if s.busy then s.dropWrite else s.accept v
  | some .status => s.writeStatus v
  | some .ctrl => s.writeCtrl v
  | some .len => if s.busy then s.dropWrite else s.setLen v
  | some .value => if s.busy then s.dropWrite else s.setValue v
  | some .rlen => s
  | some .poff => s
  | some .plen => s
  | some .einfo0 => s
  | some .einfo1 => s
  | some .einfo2 => s
  | none => s

/-- A host BUF read (20_memory.md R54, R56). -/
def State.readBuf (s : State) (i : Nat) : State :=
  if s.busy then (s.record (.buf (Config.busyByte s.readDraw))).drawRead
  else s.record (.buf (s.byteAt i))

/-- A host BUF write (20_memory.md R54, R56). -/
def State.writeBuf (s : State) (i : Nat) (b : Byte) : State :=
  if s.busy then s.dropWrite else s.memWrite i [b]

/-- A legal host access as one atomic step (20_memory.md R58). -/
def State.busStep (s : State) : BusOp → State
  | .readReg r => s.readReg r
  | .writeReg r v => s.writeReg r v
  | .readBuf i => s.readBuf i
  | .writeBuf i b => s.writeBuf i b

/-- A host access: an access error is a fault and has no effect, while BUSY too (20_memory.md R55;
60_exceptions.md R208; log 6). -/
def hostStep (a : Access) (s : State) : Host.Outcome State Fault Refusal :=
  match busOp s.bufCap a with
  | none => .fault (.accessError a)
  | some op => .next (s.busStep op)

/-- The execution step of an illegal word: ILLEGAL_COMMAND with the whole word
(30_encoding.md R75; 60_exceptions.md R202). -/
def illegalCommand (s : State) : Host.Outcome State Fault Refusal :=
  .next (s.raised (.illegalCommand s.pending))

/-- The command the execution step selects: PENDING decoded (10_state.md R43). -/
def pendingCommand (s : State) : Option Instr := decodeCommand s.pending

/-- The turns with the block's turn first, put there if the host or the platform is to move next. -/
def blockFirst : List Turn → List Turn
  | [] => []
  | .block :: rest => .block :: rest
  | turn :: rest => .block :: turn :: rest

end Sys2Proof.Machine
end

