-- ==== Sys2Proof/Machine/Operands.lean ====
section
/-!
DEFINITION. The operand forms of the commands (30_encoding.md R71), the slice of a byte string, and the
completion of a command whose input does not fit BUF.
-/

namespace Sys2Proof.Machine

/-- The operand LEN: an unsigned 64-bit byte count (30_encoding.md R71). -/
def State.lenOperand (s : State) : Nat := s.len.toNat

/-- The operand VALUE: an unsigned 64-bit number (30_encoding.md R71). -/
def State.valueOperand (s : State) : Nat := s.value.toNat

/-- The input byte string BUF[0..LEN) (30_encoding.md R71). -/
def State.input (s : State) : Bytes := s.memRead 0 s.lenOperand

/-- The result of a command that reads BUF[0..LEN): RANGE subcode 1 if LEN exceeds BUF_CAP, before any
byte is read; otherwise what the command makes of its input (60_exceptions.md R201, R208). -/
def State.withInput (s : State) (meaning : Bytes → State) : State :=
  if s.bufCap < s.lenOperand then s.raised (.range 1 s.lenOperand) else meaning s.input

/-- `bs[a..b)`, empty when `a >= b` (00_scope.md R13). -/
def slice (bs : Bytes) (a b : Nat) : Bytes := (bs.drop a).take (b - a)

end Sys2Proof.Machine
end

