-- ==== Sys2Proof/Machine/Diffuser.lean ====
section
/-!
DEFINITION. The diffusion passes, each as the loop its rule gives, the transform Mix, and the command
MIX (42_diffuser.md).
-/

namespace Sys2Proof.Machine

/-- `buf[i]`. -/
def byteOf (buf : Bytes) (i : Nat) : Byte := buf.getD i 0

/-- The loop indices `a, a+1, ..., b-1`, increasing. -/
def rising (a b : Nat) : List Nat := List.range' a (b - a)

/-- The loop indices `b-1, ..., a+1, a`, decreasing. -/
def falling (a b : Nat) : List Nat := (rising a b).reverse

/-- `buf[i] <- f (buf[i])` for every index `i` of the loop, each turn on the bytes the turns before it
left; `f` may read the buffer as it stands in that turn. -/
def loop (indices : List Nat) (f : Bytes → Nat → Byte) (buf : Bytes) : Bytes :=
  indices.foldl (fun buf i => buf.set i (f buf i)) buf

/-- P1, head-to-tail prefix sum (42_diffuser.md R161). -/
def passP1 (buf : Bytes) : Bytes :=
  loop (rising 1 buf.length) (fun buf i => byteOf buf i + byteOf buf (i - 1)) buf

/-- P2, 3-width prefix xor (42_diffuser.md R162). -/
def passP2 (buf : Bytes) : Bytes :=
  if 3 < buf.length then
    loop (rising 3 buf.length) (fun buf i => byteOf buf i ^^^ byteOf buf (i - 3)) buf
  else buf

/-- P3, index-keyed whitening (42_diffuser.md R163). -/
def passP3 (buf : Bytes) : Bytes :=
  loop (rising 0 buf.length) (fun buf i => byteOf buf i + u8 i) buf

/-- `rotl24(v, r)` for `0 < r < 24` (42_diffuser.md R164). -/
def rotl24 (v : BitVec 24) (r : Nat) : BitVec 24 := (v <<< r) ||| (v >>> (24 - r))

/-- The rotation angle of block `b` (42_diffuser.md R164). -/
def angle (b : Nat) : Nat := (2 * b + 1) % 8

/-- Block `b` as a big-endian 24-bit number (30_encoding.md R79). -/
def blockValue (buf : Bytes) (b : Nat) : BitVec 24 :=
  byteOf buf (3 * b) ++ byteOf buf (3 * b + 1) ++ byteOf buf (3 * b + 2)

/-- The three bytes of block `b`, first to last. -/
def setBlock (buf : Bytes) (b : Nat) (first middle last : Byte) : Bytes :=
  ((buf.set (3 * b) first).set (3 * b + 1) middle).set (3 * b + 2) last

/-- Stores a 24-bit number into block `b`, big-endian (42_diffuser.md R164). -/
def setBlockValue (buf : Bytes) (b : Nat) (v : BitVec 24) : Bytes :=
  setBlock buf b (v.extractLsb' 16 8) (v.extractLsb' 8 8) (v.extractLsb' 0 8)

/-- P4, intra-block big-endian rotation to the left (42_diffuser.md R164). -/
def passP4 (buf : Bytes) : Bytes :=
  (rising 0 (buf.length / 3)).foldl
    (fun buf b => setBlockValue buf b (rotl24 (blockValue buf b) (angle b))) buf

/-- P5, 6-width prefix sum from the end (42_diffuser.md R165). -/
def passP5 (buf : Bytes) : Bytes :=
  if 6 < buf.length then
    loop (falling 0 (buf.length - 6)) (fun buf i => byteOf buf i + byteOf buf (i + 6)) buf
  else buf

/-- P6, tail-to-head prefix xor (42_diffuser.md R166). -/
def passP6 (buf : Bytes) : Bytes :=
  loop (falling 0 (buf.length - 1)) (fun buf i => byteOf buf i ^^^ byteOf buf (i + 1)) buf

/-- `Forward` (42_diffuser.md R167). -/
def forward (buf : Bytes) : Bytes :=
  passP6 (passP5 (passP4 (passP3 (passP2 (passP1 buf)))))

/-- `rev8(b)`, the bits of a byte reversed (00_scope.md R12). -/
def rev8 (b : Byte) : Byte := b.reverse

/-- `Flip` (42_diffuser.md R168). -/
def flipPass (buf : Bytes) : Bytes :=
  (rising 0 (buf.length / 3)).foldl
    (fun buf b =>
      setBlock buf b (byteOf buf (3 * b + 2)) (rev8 (byteOf buf (3 * b + 1))) (byteOf buf (3 * b))) buf

/-- I6, the inverse of P6 (42_diffuser.md R169). -/
def passI6 (buf : Bytes) : Bytes :=
  loop (rising 0 (buf.length - 1)) (fun buf i => byteOf buf i ^^^ byteOf buf (i + 1)) buf

/-- I5, the inverse of P5 (42_diffuser.md R170). -/
def passI5 (buf : Bytes) : Bytes :=
  if 6 < buf.length then
    loop (rising 0 (buf.length - 6)) (fun buf i => byteOf buf i - byteOf buf (i + 6)) buf
  else buf

/-- I4, the inverse of P4: the rotation right by the same angle (42_diffuser.md R171). -/
def passI4 (buf : Bytes) : Bytes :=
  (rising 0 (buf.length / 3)).foldl
    (fun buf b => setBlockValue buf b (rotl24 (blockValue buf b) (24 - angle b))) buf

/-- I3, the inverse of P3 (42_diffuser.md R172). -/
def passI3 (buf : Bytes) : Bytes :=
  loop (rising 0 buf.length) (fun buf i => byteOf buf i - u8 i) buf

/-- I2, the inverse of P2 (42_diffuser.md R173). -/
def passI2 (buf : Bytes) : Bytes :=
  if 3 < buf.length then
    loop (falling 3 buf.length) (fun buf i => byteOf buf i ^^^ byteOf buf (i - 3)) buf
  else buf

/-- I1, the inverse of P1 (42_diffuser.md R174). -/
def passI1 (buf : Bytes) : Bytes :=
  loop (falling 1 buf.length) (fun buf i => byteOf buf i - byteOf buf (i - 1)) buf

/-- `Reverse` (42_diffuser.md R176). -/
def backward (buf : Bytes) : Bytes :=
  passI1 (passI2 (passI3 (passI4 (passI5 (passI6 buf)))))

/-- `Mix` (42_diffuser.md R177). -/
def mix (buf : Bytes) : Bytes := backward (flipPass (forward buf))

/-- MIX (42_diffuser.md R180). -/
def execMix (s : State) : Host.Outcome State Fault Refusal :=
  .next <| s.withInput fun x =>
    if s.lenOperand % 3 ≠ 0 then s.raised (.notAligned s.lenOperand)
    else ((s.memWrite 0 (mix x)).setRlen s.len).completed

end Sys2Proof.Machine
end

