-- ==== Sys2Proof/Machine/Vlq.lean ====
section
/-!
DEFINITION. The VLQ primitives and the commands VLQ_ENC and VLQ_DEC (40_vlq.md).
-/

namespace Sys2Proof.Machine

/-- `L(n)`, the size of a frame's length prefix (40_vlq.md R100). -/
def prefixSize (n : Nat) : Nat := if n = 0 then 0 else Nat.log2 n / 7 + 1

/-- `Lv(v)`, the length of a standalone VLQ (40_vlq.md R101). -/
def vlqLength (v : Nat) : Nat := max 1 (prefixSize v)

/-- At most `groups` turns of the encoder's loop (40_vlq.md R102). -/
def vlqEncodeLoop (groups v : Nat) : Bytes :=
  match groups with
  | 0 => []
  | groups + 1 =>
    if v / 128 ≠ 0 then u8 (0x80 + v % 128) :: vlqEncodeLoop groups (v / 128) else [u8 (v % 128)]

/-- `VlqEncode(v)` for `v < 2^64`, which takes at most 10 groups (40_vlq.md R101, R102). -/
def vlqEncode (v : Nat) : Bytes := vlqEncodeLoop 10 v

/-- What the decoder returns (40_vlq.md R103). -/
inductive VlqResult where
  /-- A value and the number of bytes consumed. -/
  | ok (v k : Nat)
  /-- A subcode and an offset. -/
  | bad (sub off : Nat)
deriving DecidableEq, Repr

/-- The decoder's loop from byte `j` on, `left` turns from its end, with `v` the value so far and `s`
the bytes from byte `j` on (40_vlq.md R103). -/
def vlqDecodeLoop (left j v : Nat) (s : Bytes) : VlqResult :=
  match left with
  | 0 => .bad 2 9
  | left + 1 =>
    match s with
    | [] => .bad 1 j
    | b :: rest =>
      let v := v + (b.extractLsb' 0 7).toNat * 2 ^ (7 * j)
      if b.getLsbD 7 then vlqDecodeLoop left (j + 1) v rest
      else if j = 9 ∧ 0x01 < b.toNat then .bad 2 9
      else if 1 ≤ j ∧ b = 0x00 then .bad 3 j
      else .ok v (j + 1)

/-- `VlqDecode(s)`: at most 10 bytes are read (40_vlq.md R103). -/
def vlqDecode (s : Bytes) : VlqResult := vlqDecodeLoop 10 0 0 s

/-- VLQ_ENC (40_vlq.md R110). -/
def execVlqEnc (s : State) : Host.Outcome State Fault Refusal :=
  let e := vlqEncode s.valueOperand
  .next ((s.memWrite 0 e).setRlen (word e.length)).completed

/-- VLQ_DEC (40_vlq.md R111). -/
def execVlqDec (s : State) : Host.Outcome State Fault Refusal :=
  .next <| s.withInput fun bytes =>
    match vlqDecode bytes with
    | .bad sub off => s.raised (.badLengthField sub off)
    | .ok v k => ((s.setValue (word v)).setRlen (word k)).completed

end Sys2Proof.Machine
end

