-- ==== Sys2Proof/Machine/Framer.lean ====
section
/-!
DEFINITION. The framer: checksum, size arithmetic, frame construction and validation, and the commands
PADSIZE, BUILD, BUILDZ, PARSE and RESEAL (41_framer.md).
-/

namespace Sys2Proof.Machine

/-- One bit of the CRC's inner loop (41_framer.md R120). -/
def crcShift (c : Byte) : Byte := if c.getLsbD 7 then (c <<< 1) ^^^ 0x1D else c <<< 1

/-- One byte of the CRC's outer loop (41_framer.md R120). -/
def crcByte (c b : Byte) : Byte := crcShift^[8] (c ^^^ b)

/-- `CRC8(p)`, the SAE-J1850 variant (41_framer.md R120). -/
def crc8 (p : Bytes) : Byte := p.foldl crcByte 0xFF ^^^ 0xFF

/-- `ChecksumField(p, k)`: byte `i` is `CRC8(p) + i` with 8-bit wraparound (41_framer.md R122). -/
def checksumField (p : Bytes) (k : Nat) : Bytes := (List.range k).map fun i => crc8 p + u8 i

/-- `C(n)`, the size of the checksum field; `%` is the non-negative residue (41_framer.md R123;
00_scope.md R11). -/
def checksumSize (n : Nat) : Nat := 1 + ((-(prefixSize n + n + 1 : Int)) % 3).toNat

/-- `padded_size(n)`, exact (41_framer.md R124). -/
def paddedSize (n : Nat) : Nat := prefixSize n + n + checksumSize n

/-- `BuildFrame(p)` (41_framer.md R127). -/
def buildFrame (p : Bytes) : Bytes :=
  (vlqEncode p.length).take (prefixSize p.length) ++ p ++ checksumField p (checksumSize p.length)

/-- Steps 1 to 3 of `ParseFrame`: alignment, length prefix, total length. The prefix size recorded is
`L(n)` (41_framer.md R130, R131). -/
def parseHeader (f : Bytes) : Except CmdError (Nat × Nat) :=
  if f.length % 3 ≠ 0 then .error (.notAligned f.length)
  else
    match vlqDecode f with
    | .bad sub off => .error (.badLengthField sub off)
    | .ok n _ =>
      if paddedSize n ≠ f.length then .error (.unexpectedPaddedLength n (paddedSize n) f.length)
      else .ok (prefixSize n, n)

/-- The payload `f[l .. l+n)` of a frame (41_framer.md R133). -/
def payloadOf (f : Bytes) (l n : Nat) : Bytes := slice f l (l + n)

/-- Step 4 of `ParseFrame`: the index of the first checksum byte that is not the expected one, if there
is one (41_framer.md R132). -/
def firstMismatch (f : Bytes) (l n : Nat) : Option Nat :=
  (List.range (checksumSize n)).find? fun i =>
    f.getD (l + n + i) 0 != crc8 (payloadOf f l n) + u8 i

/-- `ParseFrame(f)`: the prefix size and the payload size, or the first error met
(41_framer.md R129 to R133). -/
def parseFrame (f : Bytes) : Except CmdError (Nat × Nat) :=
  match parseHeader f with
  | .error e => .error e
  | .ok (l, n) =>
    match firstMismatch f l n with
    | some i => .error (.invalidChecksum (l + n + i))
    | none => .ok (l, n)

/-- `Reseal(f)`: the checksum field rewritten from the payload as it stands, the prefix and the payload
as they are (41_framer.md R136). -/
def reseal (f : Bytes) (l n : Nat) : Bytes :=
  f.take (l + n) ++ checksumField (payloadOf f l n) (checksumSize n)

/-- PADSIZE (41_framer.md R140). -/
def execPadsize (s : State) : Host.Outcome State Fault Refusal :=
  let n := s.valueOperand
  if 2 ^ 64 - 1 < paddedSize n then .next (s.raised (.range 3 (2 ^ 64 - 1)))
  else .next (s.setFrame (paddedSize n) (prefixSize n) n).completed

/-- The frame of an `n`-byte payload stored at offset 0, with its RLEN, POFF and PLEN; RANGE subcode 2
if it does not fit, before it is built (41_framer.md R141, R142; 60_exceptions.md R201). `payload` gives
the payload from its length. -/
def State.storeFrame (s : State) (n : Nat) (payload : Nat → Bytes) : State :=
  if s.bufCap < paddedSize n then s.raised (.range 2 (paddedSize n))
  else
    ((s.memWrite 0 (buildFrame (payload n))).setFrame (paddedSize n) (prefixSize n) n).completed

/-- BUILD (41_framer.md R141). -/
def execBuild (s : State) : Host.Outcome State Fault Refusal :=
  .next <| s.withInput fun p => s.storeFrame s.lenOperand fun _ => p

/-- BUILDZ (41_framer.md R142). -/
def execBuildz (s : State) : Host.Outcome State Fault Refusal :=
  .next (s.storeFrame s.lenOperand fun n => List.replicate n 0)

/-- PARSE (41_framer.md R143). -/
def execParse (s : State) : Host.Outcome State Fault Refusal :=
  .next <| s.withInput fun f =>
    match parseFrame f with
    | .error e => s.raised e
    | .ok (l, n) => (s.setFrame s.lenOperand l n).completed

/-- RESEAL: only the checksum bytes are written (41_framer.md R144). -/
def execReseal (s : State) : Host.Outcome State Fault Refusal :=
  .next <| s.withInput fun f =>
    match parseHeader f with
    | .error e => s.raised e
    | .ok (l, n) =>
      let sealed := reseal f l n
      ((s.memWrite (l + n) (slice sealed (l + n) (l + n + checksumSize n))).setFrame
        s.lenOperand l n).completed

end Sys2Proof.Machine
end

