-- ==== Sys2Proof/Machine/Orchestration.lean ====
section
/-!
DEFINITION. The commands ENCODE, DECODE and DECODE_VIEW (43_orchestration.md).
-/

namespace Sys2Proof.Machine

/-- ENCODE: the empty payload gives the empty blob (43_orchestration.md R190). -/
def execEncode (s : State) : Host.Outcome State Fault Refusal :=
  .next <| s.withInput fun p =>
    let n := s.lenOperand
    if n = 0 then (s.setRlen 0).completed
    else if s.bufCap < paddedSize n then s.raised (.range 2 (paddedSize n))
    else ((s.memWrite 0 (mix (buildFrame p))).setRlen (word (paddedSize n))).completed

/-- What DECODE and DECODE_VIEW share: the checks, the empty blob, the unmixed candidate written to BUF
before it is validated, and its errors (43_orchestration.md R191, R192). `onFrame` gets the state with
the candidate in BUF, the candidate, and the sizes of its prefix and payload. -/
def State.unmix (s : State) (onEmpty : State) (onFrame : State → Bytes → Nat → Nat → State) : State :=
  s.withInput fun blob =>
    if s.lenOperand % 3 ≠ 0 then s.raised (.notAligned s.lenOperand)
    else if s.lenOperand = 0 then onEmpty.completed
    else
      let f := mix blob
      let s := s.memWrite 0 f
      match parseFrame f with
      | .error e => s.raised e
      | .ok (l, n) => (onFrame s f l n).completed

/-- DECODE: the payload is moved to BUF[0..n) (43_orchestration.md R191). -/
def execDecode (s : State) : Host.Outcome State Fault Refusal :=
  .next <| s.unmix ((s.setRlen 0).setPlen 0) fun s f l n =>
    ((s.memWrite 0 (payloadOf f l n)).setRlen (word n)).setPlen (word n)

/-- DECODE_VIEW: the payload stays in the frame (43_orchestration.md R192). -/
def execDecodeView (s : State) : Host.Outcome State Fault Refusal :=
  .next <| s.unmix s fun s f l n => s.setFrame f.length l n

end Sys2Proof.Machine
end

