-- ==== Sys2Proof/Machine/Dispatch.lean ====
section
/-! DEFINITION. One arm per command: its meaning (10_state.md R43). -/

namespace Sys2Proof.Machine

def exec (i : Instr) (s : State) : Host.Outcome State Fault Refusal :=
  match i with
  | .vlqEnc => Sys2Proof.Machine.execVlqEnc s
  | .vlqDec => Sys2Proof.Machine.execVlqDec s
  | .padsize => Sys2Proof.Machine.execPadsize s
  | .build => Sys2Proof.Machine.execBuild s
  | .buildz => Sys2Proof.Machine.execBuildz s
  | .parse => Sys2Proof.Machine.execParse s
  | .reseal => Sys2Proof.Machine.execReseal s
  | .mix => Sys2Proof.Machine.execMix s
  | .encode => Sys2Proof.Machine.execEncode s
  | .decode => Sys2Proof.Machine.execDecode s
  | .decodeView => Sys2Proof.Machine.execDecodeView s

end Sys2Proof.Machine
end

