-- ==== Sys2Proof/Machine/Step.lean ====
section
/-!
DEFINITION. One step of the machine: the turn that is next, taken by the host, the block or the
platform.
-/

namespace Sys2Proof.Machine

/-- The block's turn: the execution step while BUSY; while IDLE the block has no step, and everything
keeps its value (10_state.md R43; 60_exceptions.md R219; log 10). -/
def blockStep (s : State) : Host.Outcome State Fault Refusal :=
  if s.busy then
    match pendingCommand s with
    | some i => exec i s
    | none => illegalCommand s
  else .next s

/-- One step. When no turn is listed the host issues nothing more and the turn is the block's, so a
pending command is always executed in the end (10_state.md R43; 70_reset_and_hazards.md R243; log 3). -/
def step (s : State) : Host.Outcome State Fault Refusal :=
  match s.turns with
  | [] => blockStep s.nextTurn
  | .block :: _ => blockStep s.nextTurn
  | .host a :: _ => hostStep a s.nextTurn
  | .powerOn :: _ => .next s.nextTurn.powerOnReset

/-- The state in which the very next step executes the command word `w`: the word accepted as a CMD
write accepts it (10_state.md R42), and the turn the block's (log 7). -/
def State.withFetchWord (s : State) (nbits w : Nat) : State :=
  { s.accept (word (w % 2 ^ nbits)) with turns := blockFirst s.turns }

end Sys2Proof.Machine
end

