-- ==== Sys2Proof/Safety.lean ====
section
/-!
DEFINITION. The terms statements use: what a completing command leaves alone, how success and failure
look, the invariant of the machine's states, and the turns that do not reset the block. Written from the
rules, not from the meanings.
-/

namespace Sys2Proof.Machine

/-- BUF_CAP is legal (00_scope.md R7). -/
def State.CapOk (s : State) : Prop := 16 ≤ s.bufCap ∧ s.bufCap ≤ 2 ^ 64 - 1

/-- Every byte of BUF is the same in both states. -/
def SameBytes (s t : State) : Prop := ∀ i, t.byteAt i = s.byteAt i

/-- Every byte of BUF at offset `k` or above is the same in both states. -/
def SameBytesFrom (k : Nat) (s t : State) : Prop := ∀ i, k ≤ i → t.byteAt i = s.byteAt i

/-- What no command writes: OVR, LASTOP, IE, LEN, PENDING, the capacity, the drawings, the turns to
come and the recorded reads (10_state.md R29, R31, R33, R44). -/
def KeepsControl (s t : State) : Prop :=
  t.ovr = s.ovr ∧ t.lastop = s.lastop ∧ t.ie = s.ie ∧ t.len = s.len ∧ t.pending = s.pending ∧
    t.bufCap = s.bufCap ∧ t.bufDraw = s.bufDraw ∧ t.readDraw = s.readDraw ∧ t.turns = s.turns ∧
    t.hostReads = s.hostReads

/-- VALUE and the result registers are the same in both states (60_exceptions.md R204). -/
def KeepsResults (s t : State) : Prop :=
  t.value = s.value ∧ t.rlen = s.rlen ∧ t.poff = s.poff ∧ t.plen = s.plen

/-- The error information is the same in both states. -/
def KeepsInfo (s t : State) : Prop :=
  t.einfo0 = s.einfo0 ∧ t.einfo1 = s.einfo1 ∧ t.einfo2 = s.einfo2

/-- From `s`, a command has completed in `t` with error code `code`: BUSY fell, DONE rose, ERR says
whether the code is not 0 (10_state.md R28, R43). -/
def CompletedWith (code : Nat) (s t : State) : Prop :=
  t.busy = false ∧ t.done = true ∧ t.errcode.toNat = code ∧ t.err = decide (code ≠ 0) ∧
    KeepsControl s t

/-- The command succeeded: code 0, and the error information untouched (10_state.md R38). -/
def Succeeded (s t : State) : Prop := CompletedWith 0 s t ∧ KeepsInfo s t

/-- The table of 60_exceptions.md R200: an error's code and its EINFO0, EINFO1 and EINFO2. -/
def errorReport : CmdError → Nat × Nat × Nat × Nat
  | .notAligned length => (1, length, 0, 0)
  | .badLengthField sub off => (2, sub, off, 0)
  | .unexpectedPaddedLength n expected actual => (3, n, min expected (2 ^ 64 - 1), actual)
  | .invalidChecksum off => (4, off, 0, 0)
  | .illegalCommand w => (5, w.toNat, 0, 0)
  | .range sub size => (6, sub, min size (2 ^ 64 - 1), 0)

/-- The command failed with error `e`: STATUS and EINFO report it, VALUE and the result registers are
untouched (60_exceptions.md R200, R204). What BUF holds is said beside it. -/
def Failed (e : CmdError) (s t : State) : Prop :=
  CompletedWith (errorReport e).1 s t ∧ KeepsResults s t ∧
    t.einfo0.toNat = (errorReport e).2.1 ∧ t.einfo1.toNat = (errorReport e).2.2.1 ∧
    t.einfo2.toNat = (errorReport e).2.2.2

/-- The commands that read BUF[0..LEN) (30_encoding.md R73, column "reads"). -/
def readsInput : Instr → Bool
  | .vlqEnc => false
  | .vlqDec => true
  | .padsize => false
  | .build => true
  | .buildz => false
  | .parse => true
  | .reseal => true
  | .mix => true
  | .encode => true
  | .decode => true
  | .decodeView => true

/-- The invariant of the machine's states. -/
structure State.Inv (s : State) : Prop where
  /-- BUF_CAP is legal (00_scope.md R7). -/
  cap : s.CapOk
  /-- The listed bytes of BUF are in canonical form (log 1). -/
  bufWf : Memory.wf s.buf
  /-- The listed bytes of BUF are bytes of BUF (20_memory.md R51). -/
  bufWithin : Memory.within s.bufCap s.buf
  /-- ERR is always equal to ERRCODE != 0 (10_state.md R26). -/
  errIff : s.err = (s.errcode != 0)
  /-- The reserved error codes never appear (60_exceptions.md R200). -/
  codeLegal : s.errcode.toNat ≤ 6
  /-- While BUSY, no completion is signalled (10_state.md R42). -/
  busyNotDone : s.busy = true → s.done = false ∧ s.errcode = 0
  /-- While BUSY, LASTOP is the OP field of PENDING (10_state.md R45). -/
  busyLastop : s.busy = true → s.lastop = s.pending.extractLsb' 0 8
  /-- While BUSY, and after a failure, RLEN, POFF and PLEN are 0 (60_exceptions.md R204). -/
  noResults : s.busy = true ∨ s.errcode ≠ 0 → s.rlen = 0 ∧ s.poff = 0 ∧ s.plen = 0
  /-- While BUSY, and after a success, EINFO0 to EINFO2 are 0 (10_state.md R38). -/
  noInfo : s.errcode = 0 → s.einfo0 = 0 ∧ s.einfo1 = 0 ∧ s.einfo2 = 0

/-- A turn that can neither stop the machine nor reset the block: the block's own, or a legal host
access that is no CTRL write with SRST set (10_state.md R32; 20_memory.md R55). -/
def calmTurn (cap : Nat) : Turn → Bool
  | .block => true
  | .powerOn => false
  | .host a =>
    WellFormed.access cap a &&
      match a.space, a.dir with
      | .reg, .write v => !(a.offset == 0x10 && v.getLsbD 1)
      | _, _ => true

end Sys2Proof.Machine
end

