-- ==== Sys2Proof/Certificates/Slice0/Obligations.lean ====
section
/-!
DEFINITION. The statements for the provers, each with the rule of spec/ it formalises. Where a statement
says who moves next, through `turns`, or what a read returned, through `hostReads` and `readDraw`, it
uses fields of the model's own (log 3, log 4, log 5).
-/

open Sys2Proof Sys2Proof.Machine

/-! ## Encoding -/

/-- 30_encoding.md R74: every command word and no other selects its command; every other word is
ILLEGAL. -/
def Obligations.DecodeFollowsOpcodeMap : Prop :=
  ∀ w : Word,
    (decodeCommand w = some .vlqEnc ↔ w = 0x01) ∧
    (decodeCommand w = some .vlqDec ↔ w = 0x02) ∧
    (decodeCommand w = some .padsize ↔ w = 0x03) ∧
    (decodeCommand w = some .build ↔ w = 0x04) ∧
    (decodeCommand w = some .buildz ↔ w = 0x05) ∧
    (decodeCommand w = some .parse ↔ w = 0x06) ∧
    (decodeCommand w = some .reseal ↔ w = 0x07) ∧
    (decodeCommand w = some .mix ↔ w = 0x08) ∧
    (decodeCommand w = some .encode ↔ w = 0x09) ∧
    (decodeCommand w = some .decode ↔ w = 0x0A) ∧
    (decodeCommand w = some .decodeView ↔ w = 0x0B) ∧
    (decodeCommand w = none ↔ w = 0 ∨ 0x0B < w.toNat)

/-- Decode and encode agree in both directions, and the words that decode are exactly the legal ones
(30_encoding.md R70, R73, R74). -/
def Obligations.DecodeInvertsEncode : Prop :=
  (∀ (w : Word) (i : Instr), decodeCommand w = some i ↔ w = encode i) ∧
    ∀ w : Word, (decodeCommand w).isSome = WellFormed.commandWord w

/-- A word of each family, written out bit by bit from 30_encoding.md R70 and R73, decodes to its
command; with RSVD bit 8 set it does not. -/
def Obligations.SampleWordsDecode : Prop :=
  decodeTableWord 64 0b10 = some .vlqDec ∧ decodeTableWord 64 0b111 = some .reseal ∧
    decodeTableWord 64 0b1000 = some .mix ∧ decodeTableWord 64 0b1001 = some .encode ∧
    decodeTableWord 64 0b1011 = some .decodeView ∧ decodeTableWord 64 0b100001001 = none

/-! ## The step -/

/-- 20_memory.md R55: an access that is not a legal REG or BUF access makes the host step a fault, while
BUSY too. The turn that carries the access is the model's own (log 3), and so is a run's end there (log 6). -/
def Obligations.AccessErrorIsFault : Prop :=
  ∀ (s : State) (a : Access) (r : List Turn), s.turns = .host a :: r →
    WellFormed.access s.bufCap a = false → step s = .fault (.accessError a)

/-- Malformed input never stops the block (60_exceptions.md R220), and a pending command always has its
step (10_state.md R43): in this model a step stops on an access error only, and is never refused. Model's
own choices: that a run ends at an access error, where the hardware answers an error response and goes on
(log 6, DEDUCED from 20_memory.md R55), that the idle block's turn is a step (log 10, DESIGN CHOICE),
power-on reset as a turn (log 11, DEDUCED), and the turns themselves (log 3, DESIGN CHOICE). -/
def Obligations.OnlyAccessErrorsStop : Prop :=
  ∀ s : State, (∃ t, step s = .next t) ∨
    ∃ a r, s.turns = .host a :: r ∧ WellFormed.access s.bufCap a = false ∧
      step s = .fault (.accessError a)

/-- A step at the block's turn runs the decoded command on the state with that turn taken
(10_state.md R43). How turns are listed is the model's choice (log 3). -/
def Obligations.StepRunsPendingCommand : Prop :=
  ∀ (s : State) (i : Instr), s.busy = true → (s.turns = [] ∨ ∃ r, s.turns = .block :: r) →
    decodeCommand s.pending = some i → step s = exec i { s with turns := s.turns.tail }

/-- 60_exceptions.md R202: an illegal word completes with ILLEGAL_COMMAND and the whole word in EINFO0,
and changes no BUF byte. The turn is the model's own (log 3). -/
def Obligations.IllegalWordCompletesWithError : Prop :=
  ∀ s : State, s.busy = true → (s.turns = [] ∨ ∃ r, s.turns = .block :: r) →
    s.pending = 0 ∨ 0x0B < s.pending.toNat →
    ∃ t, step s = .next t ∧
      Failed (.illegalCommand s.pending) { s with turns := s.turns.tail } t ∧
      t.errcode = 5 ∧ t.einfo0 = s.pending ∧ SameBytes s t ∧
      (s.Inv → t.lastop = s.pending.extractLsb' 0 8)

/-- While IDLE the block's turn changes nothing: every register and BUF byte keeps its value
(60_exceptions.md R219; what an idle turn is, is the model's choice, log 10). -/
def Obligations.IdleBlockTurnKeepsState : Prop :=
  ∀ s : State, s.busy = false → (s.turns = [] ∨ ∃ r, s.turns = .block :: r) →
    step s = .next { s with turns := s.turns.tail }

/-- Every command completes from every state, with a code that is not reserved, and leaves OVR, LASTOP,
IE, LEN and PENDING alone (10_state.md R43; 60_exceptions.md R200, R220). -/
def Obligations.EveryCommandCompletes : Prop :=
  ∀ (i : Instr) (s : State), ∃ t code, exec i s = .next t ∧ code ≤ 6 ∧ CompletedWith code s t

/-- 10_state.md R43, weak fairness: after any finite number of legal host accesses that do not reset the
block, a pending command is executed, on the operands it was accepted with. The turns that carry the
host's accesses are the model's own (log 3). -/
def Obligations.PendingCommandIsExecuted : Prop :=
  ∀ s : State, s.busy = true → (∀ x ∈ s.turns, calmTurn s.bufCap x = true) →
    ∃ k u t, k ≤ s.turns.length ∧ Sys2Proof.core.run k s = .next u ∧ u.busy = true ∧
      u.pending = s.pending ∧ u.len = s.len ∧ u.value = s.value ∧ SameBytes s u ∧
      step u = .next t ∧ t.busy = false ∧ t.done = true

/-- No host access that does not reset the block touches a pending command, its operands or its result
registers (70_reset_and_hazards.md R236, R239; 60_exceptions.md R209). -/
def Obligations.HostCannotDisturbPendingCommand : Prop :=
  ∀ (s : State) (a : Access) (r : List Turn), s.busy = true → s.turns = .host a :: r →
    calmTurn s.bufCap (.host a) = true →
    ∃ t, step s = .next t ∧ t.busy = true ∧ t.pending = s.pending ∧ t.lastop = s.lastop ∧
      t.len = s.len ∧ KeepsResults s t ∧ KeepsInfo s t ∧ t.errcode = s.errcode ∧ t.err = s.err ∧
      t.bufCap = s.bufCap ∧ SameBytes s t ∧ t.turns = r

/-! ## The host's accesses -/

/-- 10_state.md R42: what a CMD write does while IDLE, and that it changes nothing else. The turn that
carries the write is the model's own (log 3). -/
def Obligations.CommandAcceptance : Prop :=
  ∀ (s : State) (w : Word) (r : List Turn), s.busy = false →
    s.turns = .host (regWriteAccess .cmd w) :: r →
    step s = .next { s with
      turns := r, done := false, err := false, errcode := 0, lastop := w.extractLsb' 0 8,
      rlen := 0, poff := 0, plen := 0, einfo0 := 0, einfo1 := 0, einfo2 := 0,
      pending := w, busy := true }

/-- 20_memory.md R56: the host's accesses while BUSY. Dropped writes set OVR; STATUS and CTRL writes act
as usual; read-only and reserved writes do nothing; STATUS, CTRL, LEN, CMD and reserved offsets read
exactly; every other read returns some value, and changes nothing. The record of read values and the
drawing counter are the model's own (log 4, log 5). -/
def Obligations.HostAccessesWhileBusy : Prop :=
  ∀ (s : State) (r : List Turn), s.busy = true →
    (∀ reg v, reg ∈ [Reg.cmd, .len, .value] → s.turns = .host (regWriteAccess reg v) :: r →
      step s = .next { s with turns := r, ovr := true }) ∧
    (∀ i b, i < s.bufCap → s.turns = .host (bufWriteAccess i b) :: r →
      step s = .next { s with turns := r, ovr := true }) ∧
    (∀ v, s.turns = .host (regWriteAccess .status v) :: r →
      step s = .next { s with
        turns := r, done := s.done && !v.getLsbD 1, ovr := s.ovr && !v.getLsbD 3 }) ∧
    (∀ v, v.getLsbD 1 = false → s.turns = .host (regWriteAccess .ctrl v) :: r →
      step s = .next { s with turns := r, ie := v.getLsbD 0 }) ∧
    (∀ reg v, reg ∈ [Reg.rlen, .poff, .plen, .einfo0, .einfo1, .einfo2] →
      s.turns = .host (regWriteAccess reg v) :: r → step s = .next { s with turns := r }) ∧
    (∀ off v, off % 8 = 0 → 0x58 ≤ off → off ≤ 0xFF → s.turns = .host ⟨.reg, off, 64, .write v⟩ :: r →
      step s = .next { s with turns := r }) ∧
    (s.turns = .host (regReadAccess .status) :: r →
      step s = .next { s with turns := r, hostReads := .reg s.statusWord :: s.hostReads }) ∧
    (s.turns = .host (regReadAccess .ctrl) :: r →
      step s = .next { s with turns := r, hostReads := .reg s.ctrlWord :: s.hostReads }) ∧
    (s.turns = .host (regReadAccess .len) :: r →
      step s = .next { s with turns := r, hostReads := .reg s.len :: s.hostReads }) ∧
    (∀ off, off % 8 = 0 → off = 0 ∨ 0x58 ≤ off ∧ off ≤ 0xFF →
      s.turns = .host ⟨.reg, off, 64, .read⟩ :: r →
      step s = .next { s with turns := r, hostReads := .reg 0 :: s.hostReads }) ∧
    (∀ reg, reg ∈ [Reg.value, .rlen, .poff, .plen, .einfo0, .einfo1, .einfo2] →
      s.turns = .host (regReadAccess reg) :: r →
      ∃ v, step s = .next { s with
        turns := r, hostReads := .reg v :: s.hostReads, readDraw := s.readDraw + 1 }) ∧
    (∀ i, i < s.bufCap → s.turns = .host (bufReadAccess i) :: r →
      ∃ b, step s = .next { s with
        turns := r, hostReads := .buf b :: s.hostReads, readDraw := s.readDraw + 1 })

/-- The host's accesses while IDLE, CMD and CTRL writes apart: every register reads exactly, LEN and
VALUE take the written value, STATUS clears DONE and OVR by W1C, the others ignore writes, and a BUF
byte is read and written alone (10_state.md R24, R26, R33, R34, R39; 20_memory.md R53, R54). The record
of read values is the model's own (log 4). -/
def Obligations.HostAccessesWhileIdle : Prop :=
  ∀ (s : State) (r : List Turn), s.busy = false →
    (∀ reg v, (reg, v) ∈ [(Reg.cmd, 0), (.status, s.statusWord), (.ctrl, s.ctrlWord), (.len, s.len),
        (.value, s.value), (.rlen, s.rlen), (.poff, s.poff), (.plen, s.plen), (.einfo0, s.einfo0),
        (.einfo1, s.einfo1), (.einfo2, s.einfo2)] →
      s.turns = .host (regReadAccess reg) :: r →
      step s = .next { s with turns := r, hostReads := .reg v :: s.hostReads }) ∧
    (∀ off, off % 8 = 0 → 0x58 ≤ off → off ≤ 0xFF → s.turns = .host ⟨.reg, off, 64, .read⟩ :: r →
      step s = .next { s with turns := r, hostReads := .reg 0 :: s.hostReads }) ∧
    (∀ v, s.turns = .host (regWriteAccess .len v) :: r →
      step s = .next { s with turns := r, len := v }) ∧
    (∀ v, s.turns = .host (regWriteAccess .value v) :: r →
      step s = .next { s with turns := r, value := v }) ∧
    (∀ v, s.turns = .host (regWriteAccess .status v) :: r →
      step s = .next { s with
        turns := r, done := s.done && !v.getLsbD 1, ovr := s.ovr && !v.getLsbD 3 }) ∧
    (∀ reg v, reg ∈ [Reg.rlen, .poff, .plen, .einfo0, .einfo1, .einfo2] →
      s.turns = .host (regWriteAccess reg v) :: r → step s = .next { s with turns := r }) ∧
    (∀ off v, off % 8 = 0 → 0x58 ≤ off → off ≤ 0xFF → s.turns = .host ⟨.reg, off, 64, .write v⟩ :: r →
      step s = .next { s with turns := r }) ∧
    (∀ i, i < s.bufCap → s.turns = .host (bufReadAccess i) :: r →
      step s = .next { s with turns := r, hostReads := .buf (s.byteAt i) :: s.hostReads }) ∧
    (∀ i b, i < s.bufCap → s.turns = .host (bufWriteAccess i b) :: r →
      ∃ t, step s = .next t ∧ t.byteAt i = b ∧ (∀ j, j ≠ i → t.byteAt j = s.byteAt j) ∧
        t = { s with turns := r, buf := t.buf })

/-- No read has a side effect: a legal read, whatever the block does, changes no register and no BUF
byte (20_memory.md R57). The record and the drawing counter are the model's own (log 4, log 5). -/
def Obligations.ReadsHaveNoSideEffect : Prop :=
  ∀ (s : State) (a : Access) (r : List Turn), s.turns = .host a :: r → a.dir = .read →
    WellFormed.access s.bufCap a = true →
    ∃ v d, step s = .next { s with turns := r, hostReads := v :: s.hostReads, readDraw := d }

/-- 70_reset_and_hazards.md R232 and 10_state.md R32: a CTRL write without SRST sets IE; with SRST it
resets every register and drops a pending command. BUF is as it was if the block was idle; if it was
BUSY, each byte is the unspecified byte of a new drawing (drawings are the model's, log 1). -/
def Obligations.CtrlWriteAndSoftReset : Prop :=
  ∀ (s : State) (v : Word) (r : List Turn), s.turns = .host (regWriteAccess .ctrl v) :: r →
    (v.getLsbD 1 = false → step s = .next { s with turns := r, ie := v.getLsbD 0 }) ∧
    (v.getLsbD 1 = true → ∃ t, step s = .next t ∧
      t = { State.reset with
        buf := t.buf, bufCap := s.bufCap, bufDraw := t.bufDraw, readDraw := s.readDraw,
        turns := r, hostReads := s.hostReads } ∧
      (s.busy = false → t.buf = s.buf ∧ t.bufDraw = s.bufDraw) ∧
      (s.busy = true → t.bufDraw ≠ s.bufDraw ∧ ∀ i, t.byteAt i = Config.unknownByte t.bufDraw i))

/-- 70_reset_and_hazards.md R230, as a turn (log 11): power-on reset sets every register to 0 and draws
every BUF byte anew. -/
def Obligations.PowerOnTurnResets : Prop :=
  ∀ (s : State) (r : List Turn), s.turns = .powerOn :: r → ∃ t, step s = .next t ∧
    t = { State.reset with
      buf := t.buf, bufCap := s.bufCap, bufDraw := t.bufDraw, readDraw := s.readDraw,
      turns := r, hostReads := s.hostReads } ∧
    t.bufDraw ≠ s.bufDraw ∧ ∀ i, t.byteAt i = Config.unknownByte t.bufDraw i

/-- 10_state.md R27: the places where DONE is written, and that there are no others. Turns are the model's own
(log 3), power-on as a turn too (log 11). -/
def Obligations.DoneIsWrittenOnlyInTheStatedPlaces : Prop :=
  ∀ s t : State, step s = .next t →
    (s.busy = true → (s.turns = [] ∨ ∃ r, s.turns = .block :: r) → t.done = true) ∧
    (∀ w r, s.busy = false → s.turns = .host (regWriteAccess .cmd w) :: r → t.done = false) ∧
    (∀ v r, v.getLsbD 1 = true → s.turns = .host (regWriteAccess .status v) :: r → t.done = false) ∧
    (∀ v r, v.getLsbD 1 = true → s.turns = .host (regWriteAccess .ctrl v) :: r → t.done = false) ∧
    (∀ r, s.turns = .powerOn :: r → t.done = false) ∧
    (s.done = false → t.done = true →
      s.busy = true ∧ (s.turns = [] ∨ ∃ r, s.turns = .block :: r)) ∧
    (s.done = true → t.done = false →
      (∃ w r, s.busy = false ∧ s.turns = .host (regWriteAccess .cmd w) :: r) ∨
      (∃ v r, v.getLsbD 1 = true ∧ s.turns = .host (regWriteAccess .status v) :: r) ∨
      (∃ v r, v.getLsbD 1 = true ∧ s.turns = .host (regWriteAccess .ctrl v) :: r) ∨
      ∃ r, s.turns = .powerOn :: r)

/-- 10_state.md R29: OVR is set by a write dropped while BUSY and by nothing else, and cleared only by a
STATUS write with bit 3 set or by reset; command acceptance leaves it. Turns are the model's own
(log 3, log 11). -/
def Obligations.OverrunFlagIsSticky : Prop :=
  ∀ s t : State, step s = .next t →
    (∀ w r, s.busy = false → s.turns = .host (regWriteAccess .cmd w) :: r → t.ovr = s.ovr) ∧
    (∀ reg v r, s.busy = true → reg ∈ [Reg.cmd, .len, .value] →
      s.turns = .host (regWriteAccess reg v) :: r → t = { s with turns := r, ovr := true }) ∧
    (∀ i v r, s.busy = true → i < s.bufCap → s.turns = .host ⟨.buf, i, 8, .write v⟩ :: r →
      t = { s with turns := r, ovr := true }) ∧
    (s.ovr = false → t.ovr = true → s.busy = true ∧
      ((∃ reg v r, reg ∈ [Reg.cmd, .len, .value] ∧ s.turns = .host (regWriteAccess reg v) :: r) ∨
        ∃ i v r, i < s.bufCap ∧ s.turns = .host ⟨.buf, i, 8, .write v⟩ :: r) ∧
      t = { s with turns := s.turns.tail, ovr := true }) ∧
    (s.ovr = true → t.ovr = false →
      (∃ v r, v.getLsbD 3 = true ∧ s.turns = .host (regWriteAccess .status v) :: r) ∨
      (∃ v r, v.getLsbD 1 = true ∧ s.turns = .host (regWriteAccess .ctrl v) :: r) ∨
      ∃ r, s.turns = .powerOn :: r)

/-- 10_state.md R26 and R32: where STATUS and CTRL hold their fields, and that every other bit reads 0. -/
def Obligations.StatusAndCtrlLayout : Prop :=
  ∀ s : State,
    s.statusWord.getLsbD 0 = s.busy ∧ s.statusWord.getLsbD 1 = s.done ∧
    s.statusWord.getLsbD 2 = s.err ∧ s.statusWord.getLsbD 3 = s.ovr ∧
    s.statusWord.extractLsb' 4 4 = 0 ∧ s.statusWord.extractLsb' 8 8 = s.errcode ∧
    s.statusWord.extractLsb' 16 8 = s.lastop ∧ s.statusWord.extractLsb' 24 40 = 0 ∧
    s.ctrlWord.getLsbD 0 = s.ie ∧ s.ctrlWord.extractLsb' 1 63 = 0

/-- 10_state.md R41: IRQ is IE and DONE at every instant; it rises at a completion with IE set, and
falls with an acknowledgement, the next accepted command, a reset, or IE cleared. Turns are the model's
own (log 3, log 11). -/
def Obligations.IrqFollowsEnableAndDone : Prop :=
  (∀ s : State, s.irq = (s.ie && s.done)) ∧
  ∀ s t : State, step s = .next t →
    (s.busy = true → (s.turns = [] ∨ ∃ r, s.turns = .block :: r) → t.irq = s.ie) ∧
    (∀ v r, s.turns = .host (regWriteAccess .ctrl v) :: r → v.getLsbD 1 = false →
      t.irq = (v.getLsbD 0 && s.done)) ∧
    (∀ v r, s.turns = .host (regWriteAccess .ctrl v) :: r → v.getLsbD 1 = true → t.irq = false) ∧
    (∀ v r, s.turns = .host (regWriteAccess .status v) :: r → v.getLsbD 1 = true → t.irq = false) ∧
    (∀ w r, s.busy = false → s.turns = .host (regWriteAccess .cmd w) :: r → t.irq = false) ∧
    (∀ r, s.turns = .powerOn :: r → t.irq = false)

/-! ## Reset and the invariant -/

/-- 10_state.md R47, the column of power-on reset: every register 0, IRQ low, and each BUF byte the
unspecified byte of the drawing in force (log 1). The capacity is the legal open parameter (log 2). -/
def Obligations.ResetState : Prop :=
  State.reset.statusWord = 0 ∧ State.reset.ctrlWord = 0 ∧ State.reset.len = 0 ∧
    State.reset.value = 0 ∧ State.reset.rlen = 0 ∧ State.reset.poff = 0 ∧ State.reset.plen = 0 ∧
    State.reset.einfo0 = 0 ∧ State.reset.einfo1 = 0 ∧ State.reset.einfo2 = 0 ∧
    State.reset.pending = 0 ∧ State.reset.irq = false ∧
    (∀ i, State.reset.byteAt i = Config.unknownByte State.reset.bufDraw i) ∧ State.reset.CapOk

/-- The state after power-on reset satisfies the invariant. -/
def Obligations.ResetSatisfiesInvariant : Prop := State.reset.Inv

/-- Every step keeps the invariant: BUF's canonical form, ERR equal to ERRCODE != 0, no reserved code,
LASTOP the OP of a pending word, no result register after a failure, no error information after a
success (10_state.md R26, R38, R45; 60_exceptions.md R200, R204). -/
def Obligations.StepKeepsInvariant : Prop :=
  ∀ s t : State, s.Inv → step s = .next t → t.Inv

/-- 10_state.md R44: a command writes BUF bytes inside BUF[0..max(LEN_in, RLEN_out)) only, the registers
its rule names only, and no BUF byte when it fails, DECODE and DECODE_VIEW apart. That DECODE is among the
commands that leave POFF alone follows 43_orchestration.md R191 ("POFF stays 0") where 10_state.md R36 says
that DECODE writes 0: the model's reading of the two (log 8, DEDUCED). -/
def Obligations.WriteFootprint : Prop :=
  ∀ (i : Instr) (s t : State), s.CapOk → exec i s = .next t →
    (∀ a, (if readsInput i then s.len.toNat else 0) ≤ a → t.rlen.toNat ≤ a →
      t.byteAt a = s.byteAt a) ∧
    KeepsControl s t ∧
    (i ≠ .vlqDec → t.value = s.value) ∧
    (i ∉ [Instr.padsize, .build, .buildz, .parse, .reseal, .decodeView] → t.poff = s.poff) ∧
    (i ∉ [Instr.padsize, .build, .buildz, .parse, .reseal, .decode, .decodeView] →
      t.plen = s.plen) ∧
    (t.err = false → KeepsInfo s t) ∧ (t.err = true → KeepsResults s t) ∧
    (t.err = true → i ≠ .decode → i ≠ .decodeView → SameBytes s t)

/-! ## VLQ -/

/-- 40_vlq.md R100: the values of `L(n)`. -/
def Obligations.PrefixSizeValues : Prop :=
  prefixSize 0 = 0 ∧
    (∀ n k, 1 ≤ k → k ≤ 9 → 2 ^ (7 * (k - 1)) ≤ n → n ≤ 2 ^ (7 * k) - 1 → prefixSize n = k) ∧
    ∀ n, 2 ^ 63 ≤ n → n ≤ 2 ^ 64 - 1 → prefixSize n = 10

/-- 40_vlq.md R101 and R102: `VlqEncode(v)` has `Lv(v) = max(1, L(v))` bytes, from 1 to 10; byte `j`
holds value bits [7j+6 : 7j], and every byte but the last has CONT = 1. -/
def Obligations.VlqEncodeLayout : Prop :=
  ∀ v, v < 2 ^ 64 →
    (vlqEncode v).length = max 1 (prefixSize v) ∧ 1 ≤ (vlqEncode v).length ∧
    (vlqEncode v).length ≤ 10 ∧
    ∀ j, j < (vlqEncode v).length →
      ((vlqEncode v).getD j 0).toNat =
        v / 2 ^ (7 * j) % 128 + if j + 1 = (vlqEncode v).length then 0 else 128

/-- 40_vlq.md R105: decoding an encoding gives the value back, whatever bytes follow; and the decoder
accepts nothing but encodings. -/
def Obligations.VlqRoundTrip : Prop :=
  (∀ v t, v < 2 ^ 64 → vlqDecode (vlqEncode v ++ t) = .ok v (max 1 (prefixSize v))) ∧
    ∀ s v k, vlqDecode s = .ok v k →
      v < 2 ^ 64 ∧ k = max 1 (prefixSize v) ∧ s.take k = vlqEncode v

/-- 60_exceptions.md R205: the subcodes of BAD_LENGTH_FIELD, with their causes and offsets. -/
def Obligations.VlqDecodeErrors : Prop :=
  ∀ s : Bytes,
    (s.length < 10 → (∀ b ∈ s, b.getLsbD 7 = true) → vlqDecode s = .bad 1 s.length) ∧
    (10 ≤ s.length → (∀ b ∈ s.take 10, b.getLsbD 7 = true) → vlqDecode s = .bad 2 9) ∧
    (10 ≤ s.length → (∀ b ∈ s.take 9, b.getLsbD 7 = true) → (s.getD 9 0).getLsbD 7 = false →
      0x01 < (s.getD 9 0).toNat → vlqDecode s = .bad 2 9) ∧
    (∀ j, 1 ≤ j → j ≤ 9 → j < s.length → (∀ b ∈ s.take j, b.getLsbD 7 = true) → s.getD j 0 = 0 →
      vlqDecode s = .bad 3 j)

/-- 40_vlq.md R110, VLQ_ENC: it completes from every state, with the VLQ of VALUE at BUF[0..k) and
RLEN = k. -/
def Obligations.VlqEncFollowsItsRule : Prop :=
  decodeCommand 0x01 = some .vlqEnc ∧
  ∀ s : State, ∃ t, exec .vlqEnc s = .next t ∧ Succeeded s t ∧
    t.rlen.toNat = max 1 (prefixSize s.value.toNat) ∧
    t.memRead 0 t.rlen.toNat = vlqEncode s.value.toNat ∧ SameBytesFrom t.rlen.toNat s t ∧
    t.value = s.value ∧ t.poff = s.poff ∧ t.plen = s.plen

/-- 40_vlq.md R111, VLQ_DEC. -/
def Obligations.VlqDecFollowsItsRule : Prop :=
  decodeCommand 0x02 = some .vlqDec ∧
  ∀ s : State, s.CapOk →
    (s.bufCap < s.len.toNat → ∃ t, exec .vlqDec s = .next t ∧
      Failed (.range 1 s.len.toNat) s t ∧ SameBytes s t) ∧
    (∀ sub off, s.len.toNat ≤ s.bufCap → vlqDecode (s.memRead 0 s.len.toNat) = .bad sub off →
      ∃ t, exec .vlqDec s = .next t ∧ Failed (.badLengthField sub off) s t ∧ SameBytes s t) ∧
    (∀ v k, s.len.toNat ≤ s.bufCap → vlqDecode (s.memRead 0 s.len.toNat) = .ok v k →
      ∃ t, exec .vlqDec s = .next t ∧ Succeeded s t ∧ t.value.toNat = v ∧ t.rlen.toNat = k ∧
        t.poff = s.poff ∧ t.plen = s.plen ∧ SameBytes s t)

/-! ## Framer -/

/-- 41_framer.md R123: `C(n)` is 1, 2 or 3, and the smallest size of at least 1 that makes the frame a
multiple of 3 bytes long. -/
def Obligations.ChecksumSizeIsSmallest : Prop :=
  ∀ n, 1 ≤ checksumSize n ∧ checksumSize n ≤ 3 ∧
    (prefixSize n + n + checksumSize n) % 3 = 0 ∧
    (∀ k, 1 ≤ k → (prefixSize n + n + k) % 3 = 0 → checksumSize n ≤ k) ∧
    ((checksumSize n : Int) = 1 + (-(prefixSize n + n + 1 : Int)) % 3)

/-- 41_framer.md R125: `padded_size(n)` is a multiple of 3 and at least `n + 2`, and
`padded_size(0) = 3`. -/
def Obligations.PaddedSizeProperties : Prop :=
  (∀ n, paddedSize n % 3 = 0 ∧ n + 2 ≤ paddedSize n) ∧ paddedSize 0 = 3

/-- 41_framer.md R124: `padded_size(n)` is exact, and fits a register exactly when `n <= 2^64 - 12`. -/
def Obligations.PaddedSizeFitsRegister : Prop :=
  ∀ n, n < 2 ^ 64 →
    paddedSize n = prefixSize n + n + checksumSize n ∧
    (paddedSize n ≤ 2 ^ 64 - 1 ↔ n ≤ 2 ^ 64 - 12)

/-- 41_framer.md R126 and R122: a frame is prefix, payload and checksum field, of sizes `L(n)`, `n` and
`C(n)`; checksum byte `i` is `CRC8(payload) + i`. -/
def Obligations.BuildFrameLayout : Prop :=
  ∀ p : Bytes, p.length ≤ 2 ^ 64 - 12 →
    (buildFrame p).length = paddedSize p.length ∧
    (1 ≤ p.length → (buildFrame p).take (prefixSize p.length) = vlqEncode p.length) ∧
    ((buildFrame p).drop (prefixSize p.length)).take p.length = p ∧
    ∀ i, i < checksumSize p.length →
      (buildFrame p).getD (prefixSize p.length + p.length + i) 0 = crc8 p + BitVec.ofNat 8 i

/-- 41_framer.md R130 to R133: the checks of `ParseFrame`, in order, each with its error; and what it
returns when all pass. Steps 1 to 3 are `parseHeader`. -/
def Obligations.ParseFrameChecksInOrder : Prop :=
  ∀ f : Bytes,
    (f.length % 3 ≠ 0 → parseHeader f = .error (.notAligned f.length)) ∧
    (∀ sub off, f.length % 3 = 0 → vlqDecode f = .bad sub off →
      parseHeader f = .error (.badLengthField sub off)) ∧
    (∀ n k, f.length % 3 = 0 → vlqDecode f = .ok n k → paddedSize n ≠ f.length →
      parseHeader f = .error (.unexpectedPaddedLength n (paddedSize n) f.length)) ∧
    (∀ n k, f.length % 3 = 0 → vlqDecode f = .ok n k → paddedSize n = f.length →
      parseHeader f = .ok (prefixSize n, n)) ∧
    (∀ e, parseHeader f = .error e → parseFrame f = .error e) ∧
    (∀ l n i, parseHeader f = .ok (l, n) → i < checksumSize n →
      f.getD (l + n + i) 0 ≠ crc8 ((f.drop l).take n) + BitVec.ofNat 8 i →
      (∀ j, j < i → f.getD (l + n + j) 0 = crc8 ((f.drop l).take n) + BitVec.ofNat 8 j) →
      parseFrame f = .error (.invalidChecksum (l + n + i))) ∧
    (∀ l n, parseHeader f = .ok (l, n) →
      (∀ j, j < checksumSize n →
        f.getD (l + n + j) 0 = crc8 ((f.drop l).take n) + BitVec.ofNat 8 j) →
      parseFrame f = .ok (l, n))

/-- 41_framer.md R134: every built frame is valid, and its payload is the payload it was built from, the
empty payload included. -/
def Obligations.BuiltFramesAreValid : Prop :=
  ∀ p : Bytes, p.length ≤ 2 ^ 64 - 12 →
    parseFrame (buildFrame p) = .ok (prefixSize p.length, p.length) ∧
    ((buildFrame p).drop (prefixSize p.length)).take p.length = p

/-- The valid frames are exactly the built frames: what `ParseFrame` accepts is `BuildFrame` of the
payload it returns, and it accepts the frame of every payload that `BuildFrame` takes, with the sizes
`L(n)` and `n` (41_framer.md R127, R129 to R134). -/
def Obligations.ValidFramesAreBuiltFrames : Prop :=
  (∀ (f : Bytes) (l n : Nat), parseFrame f = .ok (l, n) →
    l = prefixSize n ∧ ((f.drop l).take n).length = n ∧ buildFrame ((f.drop l).take n) = f) ∧
  ∀ p : Bytes, p.length ≤ 2 ^ 64 - 12 →
    parseFrame (buildFrame p) = .ok (prefixSize p.length, p.length)

/-- 41_framer.md R135: no single bit flip in the payload or checksum region of a built frame is
accepted; the error is INVALID_CHECKSUM or UNEXPECTED_PADDED_LENGTH. -/
def Obligations.SingleBitFlipIsDetected : Prop :=
  ∀ (p : Bytes) (i k : Nat), p.length ≤ 2 ^ 64 - 12 → prefixSize p.length ≤ i →
    i < paddedSize p.length → k < 8 →
    let f := (buildFrame p).set i ((buildFrame p).getD i 0 ^^^ BitVec.twoPow 8 k)
    (∃ off, parseFrame f = .error (.invalidChecksum off)) ∨
      ∃ n expected actual, parseFrame f = .error (.unexpectedPaddedLength n expected actual)

/-- 41_framer.md R140, PADSIZE. -/
def Obligations.PadsizeFollowsItsRule : Prop :=
  decodeCommand 0x03 = some .padsize ∧
  ∀ s : State,
    (s.value.toNat ≤ 2 ^ 64 - 12 → ∃ t, exec .padsize s = .next t ∧ Succeeded s t ∧
      t.rlen.toNat = paddedSize s.value.toNat ∧ t.poff.toNat = prefixSize s.value.toNat ∧
      t.plen = s.value ∧ t.value = s.value ∧ SameBytes s t) ∧
    (2 ^ 64 - 11 ≤ s.value.toNat → ∃ t, exec .padsize s = .next t ∧
      Failed (.range 3 (2 ^ 64 - 1)) s t ∧ SameBytes s t)

/-- 41_framer.md R141, BUILD. -/
def Obligations.BuildFollowsItsRule : Prop :=
  decodeCommand 0x04 = some .build ∧
  ∀ s : State, s.CapOk →
    (s.bufCap < s.len.toNat → ∃ t, exec .build s = .next t ∧
      Failed (.range 1 s.len.toNat) s t ∧ SameBytes s t) ∧
    (s.len.toNat ≤ s.bufCap → s.bufCap < paddedSize s.len.toNat → ∃ t, exec .build s = .next t ∧
      Failed (.range 2 (paddedSize s.len.toNat)) s t ∧ SameBytes s t) ∧
    (paddedSize s.len.toNat ≤ s.bufCap → ∃ t, exec .build s = .next t ∧ Succeeded s t ∧
      t.rlen.toNat = paddedSize s.len.toNat ∧ t.poff.toNat = prefixSize s.len.toNat ∧
      t.plen = s.len ∧ t.value = s.value ∧
      t.memRead 0 (paddedSize s.len.toNat) = buildFrame (s.memRead 0 s.len.toNat) ∧
      SameBytesFrom (paddedSize s.len.toNat) s t)

/-- 41_framer.md R142, BUILDZ. -/
def Obligations.BuildzFollowsItsRule : Prop :=
  decodeCommand 0x05 = some .buildz ∧
  ∀ s : State, s.CapOk →
    (s.bufCap < paddedSize s.len.toNat → ∃ t, exec .buildz s = .next t ∧
      Failed (.range 2 (paddedSize s.len.toNat)) s t ∧ SameBytes s t) ∧
    (paddedSize s.len.toNat ≤ s.bufCap → ∃ t, exec .buildz s = .next t ∧ Succeeded s t ∧
      t.rlen.toNat = paddedSize s.len.toNat ∧ t.poff.toNat = prefixSize s.len.toNat ∧
      t.plen = s.len ∧ t.value = s.value ∧
      t.memRead 0 (paddedSize s.len.toNat) = buildFrame (List.replicate s.len.toNat 0) ∧
      SameBytesFrom (paddedSize s.len.toNat) s t)

/-- 41_framer.md R143, PARSE. -/
def Obligations.ParseFollowsItsRule : Prop :=
  decodeCommand 0x06 = some .parse ∧
  ∀ s : State, s.CapOk →
    (s.bufCap < s.len.toNat → ∃ t, exec .parse s = .next t ∧
      Failed (.range 1 s.len.toNat) s t ∧ SameBytes s t) ∧
    (∀ e, s.len.toNat ≤ s.bufCap → parseFrame (s.memRead 0 s.len.toNat) = .error e →
      ∃ t, exec .parse s = .next t ∧ Failed e s t ∧ SameBytes s t) ∧
    (∀ l n, s.len.toNat ≤ s.bufCap → parseFrame (s.memRead 0 s.len.toNat) = .ok (l, n) →
      ∃ t, exec .parse s = .next t ∧ Succeeded s t ∧ t.rlen = s.len ∧ t.poff.toNat = l ∧
        t.plen.toNat = n ∧ t.value = s.value ∧ SameBytes s t)

/-- 41_framer.md R144 and R136, RESEAL: only the checksum bytes are written, and the frame is valid
afterwards. -/
def Obligations.ResealFollowsItsRule : Prop :=
  decodeCommand 0x07 = some .reseal ∧
  ∀ s : State, s.CapOk →
    (s.bufCap < s.len.toNat → ∃ t, exec .reseal s = .next t ∧
      Failed (.range 1 s.len.toNat) s t ∧ SameBytes s t) ∧
    (∀ e, s.len.toNat ≤ s.bufCap → parseHeader (s.memRead 0 s.len.toNat) = .error e →
      (∀ off, e ≠ .invalidChecksum off) ∧
      ∃ t, exec .reseal s = .next t ∧ Failed e s t ∧ SameBytes s t) ∧
    (∀ l n, s.len.toNat ≤ s.bufCap → parseHeader (s.memRead 0 s.len.toNat) = .ok (l, n) →
      ∃ t, exec .reseal s = .next t ∧ Succeeded s t ∧ t.rlen = s.len ∧ t.poff.toNat = l ∧
        t.plen.toNat = n ∧ t.value = s.value ∧
        (∀ i, i < checksumSize n → t.byteAt (l + n + i) = crc8 (s.memRead l n) + BitVec.ofNat 8 i) ∧
        (∀ a, a < l + n ∨ l + n + checksumSize n ≤ a → t.byteAt a = s.byteAt a) ∧
        parseFrame (t.memRead 0 s.len.toNat) = .ok (l, n))

/-! ## Diffuser -/

/-- 42_diffuser.md R161, R162, R163, R165 and R166: the closed forms of the passes, and that they keep
the length. -/
def Obligations.PassClosedForms : Prop :=
  ∀ x : Bytes,
    (passP1 x).length = x.length ∧ (passP2 x).length = x.length ∧ (passP3 x).length = x.length ∧
    (passP5 x).length = x.length ∧ (passP6 x).length = x.length ∧
    ∀ i, i < x.length →
      (passP1 x).getD i 0 =
        ((List.range (i + 1)).map fun j => x.getD j 0).foldl (· + ·) 0 ∧
      (passP2 x).getD i 0 =
        (((List.range (i + 1)).filter fun j => j % 3 = i % 3).map fun j => x.getD j 0).foldl
          (· ^^^ ·) 0 ∧
      (passP3 x).getD i 0 = x.getD i 0 + BitVec.ofNat 8 i ∧
      (passP5 x).getD i 0 =
        (((List.range' i (x.length - i)).filter fun j => j % 6 = i % 6).map
          fun j => x.getD j 0).foldl (· + ·) 0 ∧
      (passP6 x).getD i 0 =
        ((List.range' i (x.length - i)).map fun j => x.getD j 0).foldl (· ^^^ ·) 0

/-- 42_diffuser.md R164 and R168: P4 rotates each block left by `(2b + 1) mod 8` as a big-endian 24-bit
number; Flip swaps the ends of each block and reverses the bits of its middle byte. -/
def Obligations.BlockPassesActBlockwise : Prop :=
  ∀ (x : Bytes) (b : Nat), x.length % 3 = 0 → b < x.length / 3 →
    (passP4 x).length = x.length ∧ (flipPass x).length = x.length ∧
    (blockValue (passP4 x) b).toNat =
      (blockValue x b).toNat * 2 ^ ((2 * b + 1) % 8) % 2 ^ 24 +
        (blockValue x b).toNat / 2 ^ (24 - (2 * b + 1) % 8) ∧
    (flipPass x).getD (3 * b) 0 = x.getD (3 * b + 2) 0 ∧
    (flipPass x).getD (3 * b + 2) 0 = x.getD (3 * b) 0 ∧
    ∀ j, j < 8 → ((flipPass x).getD (3 * b + 1) 0).getLsbD j = (x.getD (3 * b + 1) 0).getLsbD (7 - j)

/-- 42_diffuser.md R176: each inverse pass is the two-sided inverse of its forward pass, and Reverse,
which applies I6 to I1 in that order, is the two-sided inverse of Forward, which applies P1 to P6 in that
order (R167). -/
def Obligations.InversePassesUndoForwardPasses : Prop :=
  ∀ x : Bytes, x.length % 3 = 0 →
    (passI1 (passP1 x) = x ∧ passP1 (passI1 x) = x) ∧
    (passI2 (passP2 x) = x ∧ passP2 (passI2 x) = x) ∧
    (passI3 (passP3 x) = x ∧ passP3 (passI3 x) = x) ∧
    (passI4 (passP4 x) = x ∧ passP4 (passI4 x) = x) ∧
    (passI5 (passP5 x) = x ∧ passP5 (passI5 x) = x) ∧
    (passI6 (passP6 x) = x ∧ passP6 (passI6 x) = x) ∧
    forward x = passP6 (passP5 (passP4 (passP3 (passP2 (passP1 x))))) ∧
    backward x = passI1 (passI2 (passI3 (passI4 (passI5 (passI6 x))))) ∧
    backward (forward x) = x ∧ forward (backward x) = x

/-- 42_diffuser.md R177, R167 and R178: Mix is Reverse after Flip after Forward, Forward applies the six
passes P1 to P6 in that order, and Mix so composed is an involution that keeps the length. -/
def Obligations.MixIsAnInvolution : Prop :=
  ∀ x : Bytes, x.length % 3 = 0 →
    forward x = passP6 (passP5 (passP4 (passP3 (passP2 (passP1 x))))) ∧
    mix x = backward (flipPass (forward x)) ∧ mix (mix x) = x ∧ (mix x).length = x.length

/-- 42_diffuser.md R180, MIX, with its corner case: two MIX commands in a row restore BUF. -/
def Obligations.MixFollowsItsRule : Prop :=
  decodeCommand 0x08 = some .mix ∧
  ∀ s : State, s.CapOk →
    (s.bufCap < s.len.toNat → ∃ t, exec .mix s = .next t ∧
      Failed (.range 1 s.len.toNat) s t ∧ SameBytes s t) ∧
    (s.len.toNat ≤ s.bufCap → s.len.toNat % 3 ≠ 0 → ∃ t, exec .mix s = .next t ∧
      Failed (.notAligned s.len.toNat) s t ∧ SameBytes s t) ∧
    (s.len.toNat ≤ s.bufCap → s.len.toNat % 3 = 0 → ∃ t, exec .mix s = .next t ∧ Succeeded s t ∧
      t.rlen = s.len ∧ t.value = s.value ∧ t.poff = s.poff ∧ t.plen = s.plen ∧
      t.memRead 0 s.len.toNat = mix (s.memRead 0 s.len.toNat) ∧ SameBytesFrom s.len.toNat s t ∧
      ∀ t', SameBytes t t' → t'.len = s.len → t'.bufCap = s.bufCap →
        ∃ u, exec .mix t' = .next u ∧ SameBytes s u)

/-! ## Orchestration -/

/-- 43_orchestration.md R190, ENCODE. -/
def Obligations.EncodeFollowsItsRule : Prop :=
  decodeCommand 0x09 = some .encode ∧
  ∀ s : State, s.CapOk →
    (s.bufCap < s.len.toNat → ∃ t, exec .encode s = .next t ∧
      Failed (.range 1 s.len.toNat) s t ∧ SameBytes s t) ∧
    (s.len.toNat = 0 → ∃ t, exec .encode s = .next t ∧ Succeeded s t ∧ t.rlen = 0 ∧
      t.value = s.value ∧ t.poff = s.poff ∧ t.plen = s.plen ∧ SameBytes s t) ∧
    (1 ≤ s.len.toNat → s.len.toNat ≤ s.bufCap → s.bufCap < paddedSize s.len.toNat →
      ∃ t, exec .encode s = .next t ∧
        Failed (.range 2 (paddedSize s.len.toNat)) s t ∧ SameBytes s t) ∧
    (1 ≤ s.len.toNat → paddedSize s.len.toNat ≤ s.bufCap →
      ∃ t, exec .encode s = .next t ∧ Succeeded s t ∧ t.rlen.toNat = paddedSize s.len.toNat ∧
        t.value = s.value ∧ t.poff = s.poff ∧ t.plen = s.plen ∧
        t.memRead 0 (paddedSize s.len.toNat) = mix (buildFrame (s.memRead 0 s.len.toNat)) ∧
        SameBytesFrom (paddedSize s.len.toNat) s t)

/-- 43_orchestration.md R191, DECODE: the errors in order, with what BUF holds after each; the empty
blob; and the extracted payload, with the tail of the unmixed frame behind it. That DECODE leaves POFF as
it is follows R191 ("POFF stays 0") where 10_state.md R36 says that DECODE writes 0: the model's reading of
the two, the same wherever acceptance has cleared POFF (log 8, DEDUCED). -/
def Obligations.DecodeFollowsItsRule : Prop :=
  decodeCommand 0x0A = some .decode ∧
  ∀ s : State, s.CapOk →
    (s.bufCap < s.len.toNat → ∃ t, exec .decode s = .next t ∧
      Failed (.range 1 s.len.toNat) s t ∧ SameBytes s t) ∧
    (s.len.toNat ≤ s.bufCap → s.len.toNat % 3 ≠ 0 → ∃ t, exec .decode s = .next t ∧
      Failed (.notAligned s.len.toNat) s t ∧ SameBytes s t) ∧
    (s.len.toNat = 0 → ∃ t, exec .decode s = .next t ∧ Succeeded s t ∧ t.rlen = 0 ∧ t.plen = 0 ∧
      t.value = s.value ∧ t.poff = s.poff ∧ SameBytes s t) ∧
    ∀ f, 1 ≤ s.len.toNat → s.len.toNat ≤ s.bufCap → s.len.toNat % 3 = 0 →
      f = mix (s.memRead 0 s.len.toNat) →
      (∀ e, parseFrame f = .error e → (∀ m, e ≠ .notAligned m) ∧
        ∃ t, exec .decode s = .next t ∧ Failed e s t ∧ t.memRead 0 s.len.toNat = f ∧
          SameBytesFrom s.len.toNat s t) ∧
      (∀ l n, parseFrame f = .ok (l, n) →
        ∃ t, exec .decode s = .next t ∧ Succeeded s t ∧ t.rlen.toNat = n ∧ t.plen.toNat = n ∧
          t.value = s.value ∧ t.poff = s.poff ∧
          (∀ i, i < n → t.byteAt i = f.getD (l + i) 0) ∧
          (∀ i, n ≤ i → i < s.len.toNat → t.byteAt i = f.getD i 0) ∧
          SameBytesFrom s.len.toNat s t)

/-- 43_orchestration.md R192, DECODE_VIEW: as DECODE, the payload left in the unmixed frame. -/
def Obligations.DecodeViewFollowsItsRule : Prop :=
  decodeCommand 0x0B = some .decodeView ∧
  ∀ s : State, s.CapOk →
    (s.bufCap < s.len.toNat → ∃ t, exec .decodeView s = .next t ∧
      Failed (.range 1 s.len.toNat) s t ∧ SameBytes s t) ∧
    (s.len.toNat ≤ s.bufCap → s.len.toNat % 3 ≠ 0 → ∃ t, exec .decodeView s = .next t ∧
      Failed (.notAligned s.len.toNat) s t ∧ SameBytes s t) ∧
    (s.len.toNat = 0 → ∃ t, exec .decodeView s = .next t ∧ Succeeded s t ∧ KeepsResults s t ∧
      SameBytes s t) ∧
    ∀ f, 1 ≤ s.len.toNat → s.len.toNat ≤ s.bufCap → s.len.toNat % 3 = 0 →
      f = mix (s.memRead 0 s.len.toNat) →
      (∀ e, parseFrame f = .error e → (∀ m, e ≠ .notAligned m) ∧
        ∃ t, exec .decodeView s = .next t ∧ Failed e s t ∧ t.memRead 0 s.len.toNat = f ∧
          SameBytesFrom s.len.toNat s t) ∧
      (∀ l n, parseFrame f = .ok (l, n) →
        ∃ t, exec .decodeView s = .next t ∧ Succeeded s t ∧ t.rlen = s.len ∧ t.poff.toNat = l ∧
          t.plen.toNat = n ∧ t.value = s.value ∧ t.memRead 0 s.len.toNat = f ∧
          SameBytesFrom s.len.toNat s t)

/-- A DECODE or DECODE_VIEW that fails after the mix is undone by MIX with the same LEN: BUF holds the
blob again (43_orchestration.md R191; 42_diffuser.md R178). -/
def Obligations.MixRestoresBlobAfterFailedDecode : Prop :=
  ∀ (i : Instr) (s t t' : State) (e : CmdError), i = .decode ∨ i = .decodeView → s.CapOk →
    1 ≤ s.len.toNat → s.len.toNat ≤ s.bufCap → s.len.toNat % 3 = 0 →
    parseFrame (mix (s.memRead 0 s.len.toNat)) = .error e → exec i s = .next t →
    SameBytes t t' → t'.len = s.len → t'.bufCap = s.bufCap →
    ∃ u, exec .mix t' = .next u ∧ u.err = false ∧ SameBytes s u

/-- 43_orchestration.md R193: ENCODE and then DECODE, with LEN set to ENCODE's RLEN in between, give the
payload back, the empty payload included; DECODE_VIEW gives it at POFF. Between the two commands the
state may change in any way that leaves BUF as ENCODE left it. -/
def Obligations.EncodeDecodeRoundTrip : Prop :=
  ∀ s : State, s.CapOk → s.len.toNat = 0 ∨ paddedSize s.len.toNat ≤ s.bufCap →
    ∃ t, exec .encode s = .next t ∧ t.err = false ∧
      ∀ t', SameBytes t t' → t'.len = t.rlen → t'.bufCap = t.bufCap →
        (∃ u, exec .decode t' = .next u ∧ u.err = false ∧ u.rlen = s.len ∧
          u.memRead 0 s.len.toNat = s.memRead 0 s.len.toNat) ∧
        (1 ≤ s.len.toNat → ∃ u, exec .decodeView t' = .next u ∧ u.err = false ∧
          u.poff.toNat = prefixSize s.len.toNat ∧ u.plen = s.len ∧
          u.memRead (prefixSize s.len.toNat) s.len.toNat = s.memRead 0 s.len.toNat)
end

