-- ==== Sys2Proof/Laws/State.lean ====
section
/-!
SUPPORT. What each named update of the state leaves in each field, one lemma per field, all true by
`rfl`, so that no later proof unfolds a record update.
-/

namespace Sys2Proof.Machine

section
variable (s : State) (a : Nat) (bs : Bytes)
@[simp] theorem State.memWrite_busy : (s.memWrite a bs).busy = s.busy := rfl
@[simp] theorem State.memWrite_done : (s.memWrite a bs).done = s.done := rfl
@[simp] theorem State.memWrite_err : (s.memWrite a bs).err = s.err := rfl
@[simp] theorem State.memWrite_ovr : (s.memWrite a bs).ovr = s.ovr := rfl
@[simp] theorem State.memWrite_errcode : (s.memWrite a bs).errcode = s.errcode := rfl
@[simp] theorem State.memWrite_lastop : (s.memWrite a bs).lastop = s.lastop := rfl
@[simp] theorem State.memWrite_ie : (s.memWrite a bs).ie = s.ie := rfl
@[simp] theorem State.memWrite_len : (s.memWrite a bs).len = s.len := rfl
@[simp] theorem State.memWrite_value : (s.memWrite a bs).value = s.value := rfl
@[simp] theorem State.memWrite_rlen : (s.memWrite a bs).rlen = s.rlen := rfl
@[simp] theorem State.memWrite_poff : (s.memWrite a bs).poff = s.poff := rfl
@[simp] theorem State.memWrite_plen : (s.memWrite a bs).plen = s.plen := rfl
@[simp] theorem State.memWrite_einfo0 : (s.memWrite a bs).einfo0 = s.einfo0 := rfl
@[simp] theorem State.memWrite_einfo1 : (s.memWrite a bs).einfo1 = s.einfo1 := rfl
@[simp] theorem State.memWrite_einfo2 : (s.memWrite a bs).einfo2 = s.einfo2 := rfl
@[simp] theorem State.memWrite_pending : (s.memWrite a bs).pending = s.pending := rfl
@[simp] theorem State.memWrite_buf : (s.memWrite a bs).buf = Memory.writeAll s.buf a bs := rfl
@[simp] theorem State.memWrite_bufCap : (s.memWrite a bs).bufCap = s.bufCap := rfl
@[simp] theorem State.memWrite_bufDraw : (s.memWrite a bs).bufDraw = s.bufDraw := rfl
@[simp] theorem State.memWrite_readDraw : (s.memWrite a bs).readDraw = s.readDraw := rfl
@[simp] theorem State.memWrite_turns : (s.memWrite a bs).turns = s.turns := rfl
@[simp] theorem State.memWrite_hostReads : (s.memWrite a bs).hostReads = s.hostReads := rfl
end

section
variable (s : State) (v : Word)
@[simp] theorem State.setValue_busy : (s.setValue v).busy = s.busy := rfl
@[simp] theorem State.setValue_done : (s.setValue v).done = s.done := rfl
@[simp] theorem State.setValue_err : (s.setValue v).err = s.err := rfl
@[simp] theorem State.setValue_ovr : (s.setValue v).ovr = s.ovr := rfl
@[simp] theorem State.setValue_errcode : (s.setValue v).errcode = s.errcode := rfl
@[simp] theorem State.setValue_lastop : (s.setValue v).lastop = s.lastop := rfl
@[simp] theorem State.setValue_ie : (s.setValue v).ie = s.ie := rfl
@[simp] theorem State.setValue_len : (s.setValue v).len = s.len := rfl
@[simp] theorem State.setValue_value : (s.setValue v).value = v := rfl
@[simp] theorem State.setValue_rlen : (s.setValue v).rlen = s.rlen := rfl
@[simp] theorem State.setValue_poff : (s.setValue v).poff = s.poff := rfl
@[simp] theorem State.setValue_plen : (s.setValue v).plen = s.plen := rfl
@[simp] theorem State.setValue_einfo0 : (s.setValue v).einfo0 = s.einfo0 := rfl
@[simp] theorem State.setValue_einfo1 : (s.setValue v).einfo1 = s.einfo1 := rfl
@[simp] theorem State.setValue_einfo2 : (s.setValue v).einfo2 = s.einfo2 := rfl
@[simp] theorem State.setValue_pending : (s.setValue v).pending = s.pending := rfl
@[simp] theorem State.setValue_buf : (s.setValue v).buf = s.buf := rfl
@[simp] theorem State.setValue_bufCap : (s.setValue v).bufCap = s.bufCap := rfl
@[simp] theorem State.setValue_bufDraw : (s.setValue v).bufDraw = s.bufDraw := rfl
@[simp] theorem State.setValue_readDraw : (s.setValue v).readDraw = s.readDraw := rfl
@[simp] theorem State.setValue_turns : (s.setValue v).turns = s.turns := rfl
@[simp] theorem State.setValue_hostReads : (s.setValue v).hostReads = s.hostReads := rfl
end

section
variable (s : State) (v : Word)
@[simp] theorem State.setLen_busy : (s.setLen v).busy = s.busy := rfl
@[simp] theorem State.setLen_done : (s.setLen v).done = s.done := rfl
@[simp] theorem State.setLen_err : (s.setLen v).err = s.err := rfl
@[simp] theorem State.setLen_ovr : (s.setLen v).ovr = s.ovr := rfl
@[simp] theorem State.setLen_errcode : (s.setLen v).errcode = s.errcode := rfl
@[simp] theorem State.setLen_lastop : (s.setLen v).lastop = s.lastop := rfl
@[simp] theorem State.setLen_ie : (s.setLen v).ie = s.ie := rfl
@[simp] theorem State.setLen_len : (s.setLen v).len = v := rfl
@[simp] theorem State.setLen_value : (s.setLen v).value = s.value := rfl
@[simp] theorem State.setLen_rlen : (s.setLen v).rlen = s.rlen := rfl
@[simp] theorem State.setLen_poff : (s.setLen v).poff = s.poff := rfl
@[simp] theorem State.setLen_plen : (s.setLen v).plen = s.plen := rfl
@[simp] theorem State.setLen_einfo0 : (s.setLen v).einfo0 = s.einfo0 := rfl
@[simp] theorem State.setLen_einfo1 : (s.setLen v).einfo1 = s.einfo1 := rfl
@[simp] theorem State.setLen_einfo2 : (s.setLen v).einfo2 = s.einfo2 := rfl
@[simp] theorem State.setLen_pending : (s.setLen v).pending = s.pending := rfl
@[simp] theorem State.setLen_buf : (s.setLen v).buf = s.buf := rfl
@[simp] theorem State.setLen_bufCap : (s.setLen v).bufCap = s.bufCap := rfl
@[simp] theorem State.setLen_bufDraw : (s.setLen v).bufDraw = s.bufDraw := rfl
@[simp] theorem State.setLen_readDraw : (s.setLen v).readDraw = s.readDraw := rfl
@[simp] theorem State.setLen_turns : (s.setLen v).turns = s.turns := rfl
@[simp] theorem State.setLen_hostReads : (s.setLen v).hostReads = s.hostReads := rfl
end

section
variable (s : State) (v : Word)
@[simp] theorem State.setRlen_busy : (s.setRlen v).busy = s.busy := rfl
@[simp] theorem State.setRlen_done : (s.setRlen v).done = s.done := rfl
@[simp] theorem State.setRlen_err : (s.setRlen v).err = s.err := rfl
@[simp] theorem State.setRlen_ovr : (s.setRlen v).ovr = s.ovr := rfl
@[simp] theorem State.setRlen_errcode : (s.setRlen v).errcode = s.errcode := rfl
@[simp] theorem State.setRlen_lastop : (s.setRlen v).lastop = s.lastop := rfl
@[simp] theorem State.setRlen_ie : (s.setRlen v).ie = s.ie := rfl
@[simp] theorem State.setRlen_len : (s.setRlen v).len = s.len := rfl
@[simp] theorem State.setRlen_value : (s.setRlen v).value = s.value := rfl
@[simp] theorem State.setRlen_rlen : (s.setRlen v).rlen = v := rfl
@[simp] theorem State.setRlen_poff : (s.setRlen v).poff = s.poff := rfl
@[simp] theorem State.setRlen_plen : (s.setRlen v).plen = s.plen := rfl
@[simp] theorem State.setRlen_einfo0 : (s.setRlen v).einfo0 = s.einfo0 := rfl
@[simp] theorem State.setRlen_einfo1 : (s.setRlen v).einfo1 = s.einfo1 := rfl
@[simp] theorem State.setRlen_einfo2 : (s.setRlen v).einfo2 = s.einfo2 := rfl
@[simp] theorem State.setRlen_pending : (s.setRlen v).pending = s.pending := rfl
@[simp] theorem State.setRlen_buf : (s.setRlen v).buf = s.buf := rfl
@[simp] theorem State.setRlen_bufCap : (s.setRlen v).bufCap = s.bufCap := rfl
@[simp] theorem State.setRlen_bufDraw : (s.setRlen v).bufDraw = s.bufDraw := rfl
@[simp] theorem State.setRlen_readDraw : (s.setRlen v).readDraw = s.readDraw := rfl
@[simp] theorem State.setRlen_turns : (s.setRlen v).turns = s.turns := rfl
@[simp] theorem State.setRlen_hostReads : (s.setRlen v).hostReads = s.hostReads := rfl
end

section
variable (s : State) (v : Word)
@[simp] theorem State.setPoff_busy : (s.setPoff v).busy = s.busy := rfl
@[simp] theorem State.setPoff_done : (s.setPoff v).done = s.done := rfl
@[simp] theorem State.setPoff_err : (s.setPoff v).err = s.err := rfl
@[simp] theorem State.setPoff_ovr : (s.setPoff v).ovr = s.ovr := rfl
@[simp] theorem State.setPoff_errcode : (s.setPoff v).errcode = s.errcode := rfl
@[simp] theorem State.setPoff_lastop : (s.setPoff v).lastop = s.lastop := rfl
@[simp] theorem State.setPoff_ie : (s.setPoff v).ie = s.ie := rfl
@[simp] theorem State.setPoff_len : (s.setPoff v).len = s.len := rfl
@[simp] theorem State.setPoff_value : (s.setPoff v).value = s.value := rfl
@[simp] theorem State.setPoff_rlen : (s.setPoff v).rlen = s.rlen := rfl
@[simp] theorem State.setPoff_poff : (s.setPoff v).poff = v := rfl
@[simp] theorem State.setPoff_plen : (s.setPoff v).plen = s.plen := rfl
@[simp] theorem State.setPoff_einfo0 : (s.setPoff v).einfo0 = s.einfo0 := rfl
@[simp] theorem State.setPoff_einfo1 : (s.setPoff v).einfo1 = s.einfo1 := rfl
@[simp] theorem State.setPoff_einfo2 : (s.setPoff v).einfo2 = s.einfo2 := rfl
@[simp] theorem State.setPoff_pending : (s.setPoff v).pending = s.pending := rfl
@[simp] theorem State.setPoff_buf : (s.setPoff v).buf = s.buf := rfl
@[simp] theorem State.setPoff_bufCap : (s.setPoff v).bufCap = s.bufCap := rfl
@[simp] theorem State.setPoff_bufDraw : (s.setPoff v).bufDraw = s.bufDraw := rfl
@[simp] theorem State.setPoff_readDraw : (s.setPoff v).readDraw = s.readDraw := rfl
@[simp] theorem State.setPoff_turns : (s.setPoff v).turns = s.turns := rfl
@[simp] theorem State.setPoff_hostReads : (s.setPoff v).hostReads = s.hostReads := rfl
end

section
variable (s : State) (v : Word)
@[simp] theorem State.setPlen_busy : (s.setPlen v).busy = s.busy := rfl
@[simp] theorem State.setPlen_done : (s.setPlen v).done = s.done := rfl
@[simp] theorem State.setPlen_err : (s.setPlen v).err = s.err := rfl
@[simp] theorem State.setPlen_ovr : (s.setPlen v).ovr = s.ovr := rfl
@[simp] theorem State.setPlen_errcode : (s.setPlen v).errcode = s.errcode := rfl
@[simp] theorem State.setPlen_lastop : (s.setPlen v).lastop = s.lastop := rfl
@[simp] theorem State.setPlen_ie : (s.setPlen v).ie = s.ie := rfl
@[simp] theorem State.setPlen_len : (s.setPlen v).len = s.len := rfl
@[simp] theorem State.setPlen_value : (s.setPlen v).value = s.value := rfl
@[simp] theorem State.setPlen_rlen : (s.setPlen v).rlen = s.rlen := rfl
@[simp] theorem State.setPlen_poff : (s.setPlen v).poff = s.poff := rfl
@[simp] theorem State.setPlen_plen : (s.setPlen v).plen = v := rfl
@[simp] theorem State.setPlen_einfo0 : (s.setPlen v).einfo0 = s.einfo0 := rfl
@[simp] theorem State.setPlen_einfo1 : (s.setPlen v).einfo1 = s.einfo1 := rfl
@[simp] theorem State.setPlen_einfo2 : (s.setPlen v).einfo2 = s.einfo2 := rfl
@[simp] theorem State.setPlen_pending : (s.setPlen v).pending = s.pending := rfl
@[simp] theorem State.setPlen_buf : (s.setPlen v).buf = s.buf := rfl
@[simp] theorem State.setPlen_bufCap : (s.setPlen v).bufCap = s.bufCap := rfl
@[simp] theorem State.setPlen_bufDraw : (s.setPlen v).bufDraw = s.bufDraw := rfl
@[simp] theorem State.setPlen_readDraw : (s.setPlen v).readDraw = s.readDraw := rfl
@[simp] theorem State.setPlen_turns : (s.setPlen v).turns = s.turns := rfl
@[simp] theorem State.setPlen_hostReads : (s.setPlen v).hostReads = s.hostReads := rfl
end

section
variable (s : State) (p l n : Nat)
@[simp] theorem State.setFrame_busy : (s.setFrame p l n).busy = s.busy := rfl
@[simp] theorem State.setFrame_done : (s.setFrame p l n).done = s.done := rfl
@[simp] theorem State.setFrame_err : (s.setFrame p l n).err = s.err := rfl
@[simp] theorem State.setFrame_ovr : (s.setFrame p l n).ovr = s.ovr := rfl
@[simp] theorem State.setFrame_errcode : (s.setFrame p l n).errcode = s.errcode := rfl
@[simp] theorem State.setFrame_lastop : (s.setFrame p l n).lastop = s.lastop := rfl
@[simp] theorem State.setFrame_ie : (s.setFrame p l n).ie = s.ie := rfl
@[simp] theorem State.setFrame_len : (s.setFrame p l n).len = s.len := rfl
@[simp] theorem State.setFrame_value : (s.setFrame p l n).value = s.value := rfl
@[simp] theorem State.setFrame_rlen : (s.setFrame p l n).rlen = word p := rfl
@[simp] theorem State.setFrame_poff : (s.setFrame p l n).poff = word l := rfl
@[simp] theorem State.setFrame_plen : (s.setFrame p l n).plen = word n := rfl
@[simp] theorem State.setFrame_einfo0 : (s.setFrame p l n).einfo0 = s.einfo0 := rfl
@[simp] theorem State.setFrame_einfo1 : (s.setFrame p l n).einfo1 = s.einfo1 := rfl
@[simp] theorem State.setFrame_einfo2 : (s.setFrame p l n).einfo2 = s.einfo2 := rfl
@[simp] theorem State.setFrame_pending : (s.setFrame p l n).pending = s.pending := rfl
@[simp] theorem State.setFrame_buf : (s.setFrame p l n).buf = s.buf := rfl
@[simp] theorem State.setFrame_bufCap : (s.setFrame p l n).bufCap = s.bufCap := rfl
@[simp] theorem State.setFrame_bufDraw : (s.setFrame p l n).bufDraw = s.bufDraw := rfl
@[simp] theorem State.setFrame_readDraw : (s.setFrame p l n).readDraw = s.readDraw := rfl
@[simp] theorem State.setFrame_turns : (s.setFrame p l n).turns = s.turns := rfl
@[simp] theorem State.setFrame_hostReads : (s.setFrame p l n).hostReads = s.hostReads := rfl
end

section
variable (s : State) (c : Byte)
@[simp] theorem State.finish_busy : (s.finish c).busy = false := rfl
@[simp] theorem State.finish_done : (s.finish c).done = true := rfl
@[simp] theorem State.finish_err : (s.finish c).err = (c != 0) := rfl
@[simp] theorem State.finish_ovr : (s.finish c).ovr = s.ovr := rfl
@[simp] theorem State.finish_errcode : (s.finish c).errcode = c := rfl
@[simp] theorem State.finish_lastop : (s.finish c).lastop = s.lastop := rfl
@[simp] theorem State.finish_ie : (s.finish c).ie = s.ie := rfl
@[simp] theorem State.finish_len : (s.finish c).len = s.len := rfl
@[simp] theorem State.finish_value : (s.finish c).value = s.value := rfl
@[simp] theorem State.finish_rlen : (s.finish c).rlen = s.rlen := rfl
@[simp] theorem State.finish_poff : (s.finish c).poff = s.poff := rfl
@[simp] theorem State.finish_plen : (s.finish c).plen = s.plen := rfl
@[simp] theorem State.finish_einfo0 : (s.finish c).einfo0 = s.einfo0 := rfl
@[simp] theorem State.finish_einfo1 : (s.finish c).einfo1 = s.einfo1 := rfl
@[simp] theorem State.finish_einfo2 : (s.finish c).einfo2 = s.einfo2 := rfl
@[simp] theorem State.finish_pending : (s.finish c).pending = s.pending := rfl
@[simp] theorem State.finish_buf : (s.finish c).buf = s.buf := rfl
@[simp] theorem State.finish_bufCap : (s.finish c).bufCap = s.bufCap := rfl
@[simp] theorem State.finish_bufDraw : (s.finish c).bufDraw = s.bufDraw := rfl
@[simp] theorem State.finish_readDraw : (s.finish c).readDraw = s.readDraw := rfl
@[simp] theorem State.finish_turns : (s.finish c).turns = s.turns := rfl
@[simp] theorem State.finish_hostReads : (s.finish c).hostReads = s.hostReads := rfl
end

section
variable (s : State)
@[simp] theorem State.completed_busy : (s.completed).busy = false := rfl
@[simp] theorem State.completed_done : (s.completed).done = true := rfl
@[simp] theorem State.completed_err : (s.completed).err = false := rfl
@[simp] theorem State.completed_ovr : (s.completed).ovr = s.ovr := rfl
@[simp] theorem State.completed_errcode : (s.completed).errcode = 0 := rfl
@[simp] theorem State.completed_lastop : (s.completed).lastop = s.lastop := rfl
@[simp] theorem State.completed_ie : (s.completed).ie = s.ie := rfl
@[simp] theorem State.completed_len : (s.completed).len = s.len := rfl
@[simp] theorem State.completed_value : (s.completed).value = s.value := rfl
@[simp] theorem State.completed_rlen : (s.completed).rlen = s.rlen := rfl
@[simp] theorem State.completed_poff : (s.completed).poff = s.poff := rfl
@[simp] theorem State.completed_plen : (s.completed).plen = s.plen := rfl
@[simp] theorem State.completed_einfo0 : (s.completed).einfo0 = s.einfo0 := rfl
@[simp] theorem State.completed_einfo1 : (s.completed).einfo1 = s.einfo1 := rfl
@[simp] theorem State.completed_einfo2 : (s.completed).einfo2 = s.einfo2 := rfl
@[simp] theorem State.completed_pending : (s.completed).pending = s.pending := rfl
@[simp] theorem State.completed_buf : (s.completed).buf = s.buf := rfl
@[simp] theorem State.completed_bufCap : (s.completed).bufCap = s.bufCap := rfl
@[simp] theorem State.completed_bufDraw : (s.completed).bufDraw = s.bufDraw := rfl
@[simp] theorem State.completed_readDraw : (s.completed).readDraw = s.readDraw := rfl
@[simp] theorem State.completed_turns : (s.completed).turns = s.turns := rfl
@[simp] theorem State.completed_hostReads : (s.completed).hostReads = s.hostReads := rfl
end

section
variable (s : State) (e : CmdError)
@[simp] theorem State.raised_busy : (s.raised e).busy = false := rfl
@[simp] theorem State.raised_done : (s.raised e).done = true := rfl
@[simp] theorem State.raised_err : (s.raised e).err = (errorCode e != 0) := rfl
@[simp] theorem State.raised_ovr : (s.raised e).ovr = s.ovr := rfl
@[simp] theorem State.raised_errcode : (s.raised e).errcode = errorCode e := rfl
@[simp] theorem State.raised_lastop : (s.raised e).lastop = s.lastop := rfl
@[simp] theorem State.raised_ie : (s.raised e).ie = s.ie := rfl
@[simp] theorem State.raised_len : (s.raised e).len = s.len := rfl
@[simp] theorem State.raised_value : (s.raised e).value = s.value := rfl
@[simp] theorem State.raised_rlen : (s.raised e).rlen = s.rlen := rfl
@[simp] theorem State.raised_poff : (s.raised e).poff = s.poff := rfl
@[simp] theorem State.raised_plen : (s.raised e).plen = s.plen := rfl
@[simp] theorem State.raised_einfo0 : (s.raised e).einfo0 = errorInfo0 e := rfl
@[simp] theorem State.raised_einfo1 : (s.raised e).einfo1 = errorInfo1 e := rfl
@[simp] theorem State.raised_einfo2 : (s.raised e).einfo2 = errorInfo2 e := rfl
@[simp] theorem State.raised_pending : (s.raised e).pending = s.pending := rfl
@[simp] theorem State.raised_buf : (s.raised e).buf = s.buf := rfl
@[simp] theorem State.raised_bufCap : (s.raised e).bufCap = s.bufCap := rfl
@[simp] theorem State.raised_bufDraw : (s.raised e).bufDraw = s.bufDraw := rfl
@[simp] theorem State.raised_readDraw : (s.raised e).readDraw = s.readDraw := rfl
@[simp] theorem State.raised_turns : (s.raised e).turns = s.turns := rfl
@[simp] theorem State.raised_hostReads : (s.raised e).hostReads = s.hostReads := rfl
end

section
variable (s : State) (v : Word)
@[simp] theorem State.writeStatus_busy : (s.writeStatus v).busy = s.busy := rfl
@[simp] theorem State.writeStatus_done : (s.writeStatus v).done = (s.done && !v.getLsbD 1) := rfl
@[simp] theorem State.writeStatus_err : (s.writeStatus v).err = s.err := rfl
@[simp] theorem State.writeStatus_ovr : (s.writeStatus v).ovr = (s.ovr && !v.getLsbD 3) := rfl
@[simp] theorem State.writeStatus_errcode : (s.writeStatus v).errcode = s.errcode := rfl
@[simp] theorem State.writeStatus_lastop : (s.writeStatus v).lastop = s.lastop := rfl
@[simp] theorem State.writeStatus_ie : (s.writeStatus v).ie = s.ie := rfl
@[simp] theorem State.writeStatus_len : (s.writeStatus v).len = s.len := rfl
@[simp] theorem State.writeStatus_value : (s.writeStatus v).value = s.value := rfl
@[simp] theorem State.writeStatus_rlen : (s.writeStatus v).rlen = s.rlen := rfl
@[simp] theorem State.writeStatus_poff : (s.writeStatus v).poff = s.poff := rfl
@[simp] theorem State.writeStatus_plen : (s.writeStatus v).plen = s.plen := rfl
@[simp] theorem State.writeStatus_einfo0 : (s.writeStatus v).einfo0 = s.einfo0 := rfl
@[simp] theorem State.writeStatus_einfo1 : (s.writeStatus v).einfo1 = s.einfo1 := rfl
@[simp] theorem State.writeStatus_einfo2 : (s.writeStatus v).einfo2 = s.einfo2 := rfl
@[simp] theorem State.writeStatus_pending : (s.writeStatus v).pending = s.pending := rfl
@[simp] theorem State.writeStatus_buf : (s.writeStatus v).buf = s.buf := rfl
@[simp] theorem State.writeStatus_bufCap : (s.writeStatus v).bufCap = s.bufCap := rfl
@[simp] theorem State.writeStatus_bufDraw : (s.writeStatus v).bufDraw = s.bufDraw := rfl
@[simp] theorem State.writeStatus_readDraw : (s.writeStatus v).readDraw = s.readDraw := rfl
@[simp] theorem State.writeStatus_turns : (s.writeStatus v).turns = s.turns := rfl
@[simp] theorem State.writeStatus_hostReads : (s.writeStatus v).hostReads = s.hostReads := rfl
end

section
variable (s : State) (w : Word)
@[simp] theorem State.accept_busy : (s.accept w).busy = true := rfl
@[simp] theorem State.accept_done : (s.accept w).done = false := rfl
@[simp] theorem State.accept_err : (s.accept w).err = false := rfl
@[simp] theorem State.accept_ovr : (s.accept w).ovr = s.ovr := rfl
@[simp] theorem State.accept_errcode : (s.accept w).errcode = 0 := rfl
@[simp] theorem State.accept_lastop : (s.accept w).lastop = w.extractLsb' 0 8 := rfl
@[simp] theorem State.accept_ie : (s.accept w).ie = s.ie := rfl
@[simp] theorem State.accept_len : (s.accept w).len = s.len := rfl
@[simp] theorem State.accept_value : (s.accept w).value = s.value := rfl
@[simp] theorem State.accept_rlen : (s.accept w).rlen = 0 := rfl
@[simp] theorem State.accept_poff : (s.accept w).poff = 0 := rfl
@[simp] theorem State.accept_plen : (s.accept w).plen = 0 := rfl
@[simp] theorem State.accept_einfo0 : (s.accept w).einfo0 = 0 := rfl
@[simp] theorem State.accept_einfo1 : (s.accept w).einfo1 = 0 := rfl
@[simp] theorem State.accept_einfo2 : (s.accept w).einfo2 = 0 := rfl
@[simp] theorem State.accept_pending : (s.accept w).pending = w := rfl
@[simp] theorem State.accept_buf : (s.accept w).buf = s.buf := rfl
@[simp] theorem State.accept_bufCap : (s.accept w).bufCap = s.bufCap := rfl
@[simp] theorem State.accept_bufDraw : (s.accept w).bufDraw = s.bufDraw := rfl
@[simp] theorem State.accept_readDraw : (s.accept w).readDraw = s.readDraw := rfl
@[simp] theorem State.accept_turns : (s.accept w).turns = s.turns := rfl
@[simp] theorem State.accept_hostReads : (s.accept w).hostReads = s.hostReads := rfl
end

section
variable (s : State)
@[simp] theorem State.clearRegisters_busy : (s.clearRegisters).busy = false := rfl
@[simp] theorem State.clearRegisters_done : (s.clearRegisters).done = false := rfl
@[simp] theorem State.clearRegisters_err : (s.clearRegisters).err = false := rfl
@[simp] theorem State.clearRegisters_ovr : (s.clearRegisters).ovr = false := rfl
@[simp] theorem State.clearRegisters_errcode : (s.clearRegisters).errcode = 0 := rfl
@[simp] theorem State.clearRegisters_lastop : (s.clearRegisters).lastop = 0 := rfl
@[simp] theorem State.clearRegisters_ie : (s.clearRegisters).ie = false := rfl
@[simp] theorem State.clearRegisters_len : (s.clearRegisters).len = 0 := rfl
@[simp] theorem State.clearRegisters_value : (s.clearRegisters).value = 0 := rfl
@[simp] theorem State.clearRegisters_rlen : (s.clearRegisters).rlen = 0 := rfl
@[simp] theorem State.clearRegisters_poff : (s.clearRegisters).poff = 0 := rfl
@[simp] theorem State.clearRegisters_plen : (s.clearRegisters).plen = 0 := rfl
@[simp] theorem State.clearRegisters_einfo0 : (s.clearRegisters).einfo0 = 0 := rfl
@[simp] theorem State.clearRegisters_einfo1 : (s.clearRegisters).einfo1 = 0 := rfl
@[simp] theorem State.clearRegisters_einfo2 : (s.clearRegisters).einfo2 = 0 := rfl
@[simp] theorem State.clearRegisters_pending : (s.clearRegisters).pending = 0 := rfl
@[simp] theorem State.clearRegisters_buf : (s.clearRegisters).buf = s.buf := rfl
@[simp] theorem State.clearRegisters_bufCap : (s.clearRegisters).bufCap = s.bufCap := rfl
@[simp] theorem State.clearRegisters_bufDraw : (s.clearRegisters).bufDraw = s.bufDraw := rfl
@[simp] theorem State.clearRegisters_readDraw : (s.clearRegisters).readDraw = s.readDraw := rfl
@[simp] theorem State.clearRegisters_turns : (s.clearRegisters).turns = s.turns := rfl
@[simp] theorem State.clearRegisters_hostReads : (s.clearRegisters).hostReads = s.hostReads := rfl
end

section
variable (s : State)
@[simp] theorem State.drawBuf_busy : (s.drawBuf).busy = s.busy := rfl
@[simp] theorem State.drawBuf_done : (s.drawBuf).done = s.done := rfl
@[simp] theorem State.drawBuf_err : (s.drawBuf).err = s.err := rfl
@[simp] theorem State.drawBuf_ovr : (s.drawBuf).ovr = s.ovr := rfl
@[simp] theorem State.drawBuf_errcode : (s.drawBuf).errcode = s.errcode := rfl
@[simp] theorem State.drawBuf_lastop : (s.drawBuf).lastop = s.lastop := rfl
@[simp] theorem State.drawBuf_ie : (s.drawBuf).ie = s.ie := rfl
@[simp] theorem State.drawBuf_len : (s.drawBuf).len = s.len := rfl
@[simp] theorem State.drawBuf_value : (s.drawBuf).value = s.value := rfl
@[simp] theorem State.drawBuf_rlen : (s.drawBuf).rlen = s.rlen := rfl
@[simp] theorem State.drawBuf_poff : (s.drawBuf).poff = s.poff := rfl
@[simp] theorem State.drawBuf_plen : (s.drawBuf).plen = s.plen := rfl
@[simp] theorem State.drawBuf_einfo0 : (s.drawBuf).einfo0 = s.einfo0 := rfl
@[simp] theorem State.drawBuf_einfo1 : (s.drawBuf).einfo1 = s.einfo1 := rfl
@[simp] theorem State.drawBuf_einfo2 : (s.drawBuf).einfo2 = s.einfo2 := rfl
@[simp] theorem State.drawBuf_pending : (s.drawBuf).pending = s.pending := rfl
@[simp] theorem State.drawBuf_buf : (s.drawBuf).buf = [] := rfl
@[simp] theorem State.drawBuf_bufCap : (s.drawBuf).bufCap = s.bufCap := rfl
@[simp] theorem State.drawBuf_bufDraw : (s.drawBuf).bufDraw = s.bufDraw + 1 := rfl
@[simp] theorem State.drawBuf_readDraw : (s.drawBuf).readDraw = s.readDraw := rfl
@[simp] theorem State.drawBuf_turns : (s.drawBuf).turns = s.turns := rfl
@[simp] theorem State.drawBuf_hostReads : (s.drawBuf).hostReads = s.hostReads := rfl
end

section
variable (s : State)
@[simp] theorem State.powerOnReset_busy : (s.powerOnReset).busy = false := rfl
@[simp] theorem State.powerOnReset_done : (s.powerOnReset).done = false := rfl
@[simp] theorem State.powerOnReset_err : (s.powerOnReset).err = false := rfl
@[simp] theorem State.powerOnReset_ovr : (s.powerOnReset).ovr = false := rfl
@[simp] theorem State.powerOnReset_errcode : (s.powerOnReset).errcode = 0 := rfl
@[simp] theorem State.powerOnReset_lastop : (s.powerOnReset).lastop = 0 := rfl
@[simp] theorem State.powerOnReset_ie : (s.powerOnReset).ie = false := rfl
@[simp] theorem State.powerOnReset_len : (s.powerOnReset).len = 0 := rfl
@[simp] theorem State.powerOnReset_value : (s.powerOnReset).value = 0 := rfl
@[simp] theorem State.powerOnReset_rlen : (s.powerOnReset).rlen = 0 := rfl
@[simp] theorem State.powerOnReset_poff : (s.powerOnReset).poff = 0 := rfl
@[simp] theorem State.powerOnReset_plen : (s.powerOnReset).plen = 0 := rfl
@[simp] theorem State.powerOnReset_einfo0 : (s.powerOnReset).einfo0 = 0 := rfl
@[simp] theorem State.powerOnReset_einfo1 : (s.powerOnReset).einfo1 = 0 := rfl
@[simp] theorem State.powerOnReset_einfo2 : (s.powerOnReset).einfo2 = 0 := rfl
@[simp] theorem State.powerOnReset_pending : (s.powerOnReset).pending = 0 := rfl
@[simp] theorem State.powerOnReset_buf : (s.powerOnReset).buf = [] := rfl
@[simp] theorem State.powerOnReset_bufCap : (s.powerOnReset).bufCap = s.bufCap := rfl
@[simp] theorem State.powerOnReset_bufDraw : (s.powerOnReset).bufDraw = s.bufDraw + 1 := rfl
@[simp] theorem State.powerOnReset_readDraw : (s.powerOnReset).readDraw = s.readDraw := rfl
@[simp] theorem State.powerOnReset_turns : (s.powerOnReset).turns = s.turns := rfl
@[simp] theorem State.powerOnReset_hostReads : (s.powerOnReset).hostReads = s.hostReads := rfl
end

section
variable (s : State)
@[simp] theorem State.dropWrite_busy : (s.dropWrite).busy = s.busy := rfl
@[simp] theorem State.dropWrite_done : (s.dropWrite).done = s.done := rfl
@[simp] theorem State.dropWrite_err : (s.dropWrite).err = s.err := rfl
@[simp] theorem State.dropWrite_ovr : (s.dropWrite).ovr = true := rfl
@[simp] theorem State.dropWrite_errcode : (s.dropWrite).errcode = s.errcode := rfl
@[simp] theorem State.dropWrite_lastop : (s.dropWrite).lastop = s.lastop := rfl
@[simp] theorem State.dropWrite_ie : (s.dropWrite).ie = s.ie := rfl
@[simp] theorem State.dropWrite_len : (s.dropWrite).len = s.len := rfl
@[simp] theorem State.dropWrite_value : (s.dropWrite).value = s.value := rfl
@[simp] theorem State.dropWrite_rlen : (s.dropWrite).rlen = s.rlen := rfl
@[simp] theorem State.dropWrite_poff : (s.dropWrite).poff = s.poff := rfl
@[simp] theorem State.dropWrite_plen : (s.dropWrite).plen = s.plen := rfl
@[simp] theorem State.dropWrite_einfo0 : (s.dropWrite).einfo0 = s.einfo0 := rfl
@[simp] theorem State.dropWrite_einfo1 : (s.dropWrite).einfo1 = s.einfo1 := rfl
@[simp] theorem State.dropWrite_einfo2 : (s.dropWrite).einfo2 = s.einfo2 := rfl
@[simp] theorem State.dropWrite_pending : (s.dropWrite).pending = s.pending := rfl
@[simp] theorem State.dropWrite_buf : (s.dropWrite).buf = s.buf := rfl
@[simp] theorem State.dropWrite_bufCap : (s.dropWrite).bufCap = s.bufCap := rfl
@[simp] theorem State.dropWrite_bufDraw : (s.dropWrite).bufDraw = s.bufDraw := rfl
@[simp] theorem State.dropWrite_readDraw : (s.dropWrite).readDraw = s.readDraw := rfl
@[simp] theorem State.dropWrite_turns : (s.dropWrite).turns = s.turns := rfl
@[simp] theorem State.dropWrite_hostReads : (s.dropWrite).hostReads = s.hostReads := rfl
end

section
variable (s : State)
@[simp] theorem State.nextTurn_busy : (s.nextTurn).busy = s.busy := rfl
@[simp] theorem State.nextTurn_done : (s.nextTurn).done = s.done := rfl
@[simp] theorem State.nextTurn_err : (s.nextTurn).err = s.err := rfl
@[simp] theorem State.nextTurn_ovr : (s.nextTurn).ovr = s.ovr := rfl
@[simp] theorem State.nextTurn_errcode : (s.nextTurn).errcode = s.errcode := rfl
@[simp] theorem State.nextTurn_lastop : (s.nextTurn).lastop = s.lastop := rfl
@[simp] theorem State.nextTurn_ie : (s.nextTurn).ie = s.ie := rfl
@[simp] theorem State.nextTurn_len : (s.nextTurn).len = s.len := rfl
@[simp] theorem State.nextTurn_value : (s.nextTurn).value = s.value := rfl
@[simp] theorem State.nextTurn_rlen : (s.nextTurn).rlen = s.rlen := rfl
@[simp] theorem State.nextTurn_poff : (s.nextTurn).poff = s.poff := rfl
@[simp] theorem State.nextTurn_plen : (s.nextTurn).plen = s.plen := rfl
@[simp] theorem State.nextTurn_einfo0 : (s.nextTurn).einfo0 = s.einfo0 := rfl
@[simp] theorem State.nextTurn_einfo1 : (s.nextTurn).einfo1 = s.einfo1 := rfl
@[simp] theorem State.nextTurn_einfo2 : (s.nextTurn).einfo2 = s.einfo2 := rfl
@[simp] theorem State.nextTurn_pending : (s.nextTurn).pending = s.pending := rfl
@[simp] theorem State.nextTurn_buf : (s.nextTurn).buf = s.buf := rfl
@[simp] theorem State.nextTurn_bufCap : (s.nextTurn).bufCap = s.bufCap := rfl
@[simp] theorem State.nextTurn_bufDraw : (s.nextTurn).bufDraw = s.bufDraw := rfl
@[simp] theorem State.nextTurn_readDraw : (s.nextTurn).readDraw = s.readDraw := rfl
@[simp] theorem State.nextTurn_turns : (s.nextTurn).turns = s.turns.tail := rfl
@[simp] theorem State.nextTurn_hostReads : (s.nextTurn).hostReads = s.hostReads := rfl
end

section
variable (s : State) (r : HostRead)
@[simp] theorem State.record_busy : (s.record r).busy = s.busy := rfl
@[simp] theorem State.record_done : (s.record r).done = s.done := rfl
@[simp] theorem State.record_err : (s.record r).err = s.err := rfl
@[simp] theorem State.record_ovr : (s.record r).ovr = s.ovr := rfl
@[simp] theorem State.record_errcode : (s.record r).errcode = s.errcode := rfl
@[simp] theorem State.record_lastop : (s.record r).lastop = s.lastop := rfl
@[simp] theorem State.record_ie : (s.record r).ie = s.ie := rfl
@[simp] theorem State.record_len : (s.record r).len = s.len := rfl
@[simp] theorem State.record_value : (s.record r).value = s.value := rfl
@[simp] theorem State.record_rlen : (s.record r).rlen = s.rlen := rfl
@[simp] theorem State.record_poff : (s.record r).poff = s.poff := rfl
@[simp] theorem State.record_plen : (s.record r).plen = s.plen := rfl
@[simp] theorem State.record_einfo0 : (s.record r).einfo0 = s.einfo0 := rfl
@[simp] theorem State.record_einfo1 : (s.record r).einfo1 = s.einfo1 := rfl
@[simp] theorem State.record_einfo2 : (s.record r).einfo2 = s.einfo2 := rfl
@[simp] theorem State.record_pending : (s.record r).pending = s.pending := rfl
@[simp] theorem State.record_buf : (s.record r).buf = s.buf := rfl
@[simp] theorem State.record_bufCap : (s.record r).bufCap = s.bufCap := rfl
@[simp] theorem State.record_bufDraw : (s.record r).bufDraw = s.bufDraw := rfl
@[simp] theorem State.record_readDraw : (s.record r).readDraw = s.readDraw := rfl
@[simp] theorem State.record_turns : (s.record r).turns = s.turns := rfl
@[simp] theorem State.record_hostReads : (s.record r).hostReads = r :: s.hostReads := rfl
end

section
variable (s : State)
@[simp] theorem State.drawRead_busy : (s.drawRead).busy = s.busy := rfl
@[simp] theorem State.drawRead_done : (s.drawRead).done = s.done := rfl
@[simp] theorem State.drawRead_err : (s.drawRead).err = s.err := rfl
@[simp] theorem State.drawRead_ovr : (s.drawRead).ovr = s.ovr := rfl
@[simp] theorem State.drawRead_errcode : (s.drawRead).errcode = s.errcode := rfl
@[simp] theorem State.drawRead_lastop : (s.drawRead).lastop = s.lastop := rfl
@[simp] theorem State.drawRead_ie : (s.drawRead).ie = s.ie := rfl
@[simp] theorem State.drawRead_len : (s.drawRead).len = s.len := rfl
@[simp] theorem State.drawRead_value : (s.drawRead).value = s.value := rfl
@[simp] theorem State.drawRead_rlen : (s.drawRead).rlen = s.rlen := rfl
@[simp] theorem State.drawRead_poff : (s.drawRead).poff = s.poff := rfl
@[simp] theorem State.drawRead_plen : (s.drawRead).plen = s.plen := rfl
@[simp] theorem State.drawRead_einfo0 : (s.drawRead).einfo0 = s.einfo0 := rfl
@[simp] theorem State.drawRead_einfo1 : (s.drawRead).einfo1 = s.einfo1 := rfl
@[simp] theorem State.drawRead_einfo2 : (s.drawRead).einfo2 = s.einfo2 := rfl
@[simp] theorem State.drawRead_pending : (s.drawRead).pending = s.pending := rfl
@[simp] theorem State.drawRead_buf : (s.drawRead).buf = s.buf := rfl
@[simp] theorem State.drawRead_bufCap : (s.drawRead).bufCap = s.bufCap := rfl
@[simp] theorem State.drawRead_bufDraw : (s.drawRead).bufDraw = s.bufDraw := rfl
@[simp] theorem State.drawRead_readDraw : (s.drawRead).readDraw = s.readDraw + 1 := rfl
@[simp] theorem State.drawRead_turns : (s.drawRead).turns = s.turns := rfl
@[simp] theorem State.drawRead_hostReads : (s.drawRead).hostReads = s.hostReads := rfl
end

end Sys2Proof.Machine
end

