-- ==== Sys2Proof/Laws/Memory.lean ====
section
/-!
SUPPORT. Reading and writing BUF: a read after a write, the bytes a write leaves alone, and the
canonical form, which every write keeps.
-/

namespace Sys2Proof.Machine

theorem Memory.read?_write_same (m : Memory) (a : Nat) (b : Byte) :
    Memory.read? (Memory.write m a b) a = some b := by
  induction m with
  | nil => simp [Memory.write, Memory.read?]
  | cons c m ih =>
    obtain ⟨k, v⟩ := c
    simp only [Memory.write]
    split
    · simp [Memory.read?]
    · split
      · simp [Memory.read?]
      · next h => simp [Memory.read?, Ne.symm h, ih]

theorem Memory.read?_write_other (m : Memory) {a i : Nat} (b : Byte) (h : i ≠ a) :
    Memory.read? (Memory.write m a b) i = Memory.read? m i := by
  induction m with
  | nil => simp [Memory.write, Memory.read?, Ne.symm h]
  | cons c m ih =>
    obtain ⟨k, v⟩ := c
    simp only [Memory.write]
    split
    · simp [Memory.read?, Ne.symm h]
    · split
      · next h' => subst h'; simp [Memory.read?, Ne.symm h]
      · simp [Memory.read?, ih]

/-- Writing bytes: inside the written range the new byte, outside it the old one. -/
theorem Memory.read?_writeAll (m : Memory) (a i : Nat) (bs : Bytes) :
    Memory.read? (Memory.writeAll m a bs) i =
      if a ≤ i ∧ i < a + bs.length then bs[i - a]? else Memory.read? m i := by
  induction bs generalizing m a with
  | nil => rw [if_neg (by simp only [List.length_nil]; omega)]; rfl
  | cons b bs ih =>
    rw [Memory.writeAll, ih, List.length_cons]
    by_cases hi : i = a
    · subst hi
      rw [if_neg (by omega), if_pos (by omega), Memory.read?_write_same, Nat.sub_self]
      rfl
    · rw [Memory.read?_write_other m b hi]
      by_cases hin : a + 1 ≤ i ∧ i < a + 1 + bs.length
      · rw [if_pos hin, if_pos (by omega), show i - a = (i - (a + 1)) + 1 by omega,
          List.getElem?_cons_succ]
      · rw [if_neg hin, if_neg (by omega)]

/-- Every offset a write lists was listed before or is the one written. -/
theorem Memory.mem_write {m : Memory} {a : Nat} {b : Byte} {c : Host.Cell}
    (h : c ∈ Memory.write m a b) : c = (a, b) ∨ c ∈ m := by
  induction m with
  | nil => simpa [Memory.write] using h
  | cons d m ih =>
    obtain ⟨k, v⟩ := d
    simp only [Memory.write] at h
    split at h
    · simpa using h
    · split at h
      · rcases List.mem_cons.mp h with h | h
        · exact .inl h
        · exact .inr (List.mem_cons_of_mem _ h)
      · rcases List.mem_cons.mp h with h | h
        · exact .inr (h ▸ List.mem_cons_self)
        · exact (ih h).imp id (List.mem_cons_of_mem _)

theorem Memory.wf_cons {k : Nat} {v : Byte} {m : Memory} :
    Memory.wf ((k, v) :: m) ↔ (∀ c ∈ m, k < c.1) ∧ Memory.wf m := by
  simp [Memory.wf, List.pairwise_cons]

theorem Memory.write_wf {m : Memory} (h : Memory.wf m) (a : Nat) (b : Byte) :
    Memory.wf (Memory.write m a b) := by
  induction m with
  | nil => simp [Memory.write, Memory.wf]
  | cons c m ih =>
    obtain ⟨k, v⟩ := c
    obtain ⟨hk, hm⟩ := Memory.wf_cons.mp h
    simp only [Memory.write]
    split
    · next hlt =>
      refine Memory.wf_cons.mpr ⟨fun c hc => ?_, h⟩
      rcases List.mem_cons.mp hc with rfl | hc
      · exact hlt
      · exact Nat.lt_trans hlt (hk c hc)
    · split
      · next heq => subst heq; exact Memory.wf_cons.mpr ⟨hk, hm⟩
      · refine Memory.wf_cons.mpr ⟨fun c hc => ?_, ih hm⟩
        rcases Memory.mem_write hc with rfl | hc
        · simp only; omega
        · exact hk c hc

theorem Memory.write_within {cap : Nat} {m : Memory} (h : Memory.within cap m) {a : Nat} (b : Byte)
    (ha : a < cap) : Memory.within cap (Memory.write m a b) := by
  intro c hc
  rcases Memory.mem_write hc with rfl | hc
  · exact ha
  · exact h c hc

/-- Every write of bytes keeps the canonical form. -/
theorem Memory.writeAll_wf {m : Memory} (h : Memory.wf m) (a : Nat) (bs : Bytes) :
    Memory.wf (Memory.writeAll m a bs) := by
  induction bs generalizing m a with
  | nil => exact h
  | cons b bs ih => exact ih (Memory.write_wf h a b) (a + 1)

/-- A write of bytes inside BUF lists offsets of BUF only. -/
theorem Memory.writeAll_within {cap : Nat} {m : Memory} (h : Memory.within cap m) {a : Nat}
    (bs : Bytes) (ha : a + bs.length ≤ cap) : Memory.within cap (Memory.writeAll m a bs) := by
  induction bs generalizing m a with
  | nil => exact h
  | cons b bs ih =>
    rw [List.length_cons] at ha
    exact ih (Memory.write_within h b (by omega)) (by omega)

theorem State.reset_buf_wf : Memory.wf State.reset.buf := by decide

/-- A byte of BUF after a write: the byte written, or the byte as it was. -/
theorem State.byteAt_memWrite (s : State) (a i : Nat) (bs : Bytes) :
    (s.memWrite a bs).byteAt i =
      if a ≤ i ∧ i < a + bs.length then bs.getD (i - a) 0 else s.byteAt i := by
  unfold State.byteAt
  rw [State.memWrite_buf, State.memWrite_bufDraw, Memory.read?_writeAll]
  split
  · next h =>
    have hlt : i - a < bs.length := by omega
    simp [List.getElem?_eq_getElem hlt]
  · rfl

/-- A byte of BUF outside the written range is as it was. -/
theorem State.byteAt_memWrite_outside (s : State) {a i : Nat} {bs : Bytes}
    (h : i < a ∨ a + bs.length ≤ i) : (s.memWrite a bs).byteAt i = s.byteAt i := by
  rw [State.byteAt_memWrite, if_neg (by omega)]

@[simp] theorem State.memRead_length (s : State) (a k : Nat) : (s.memRead a k).length = k := by
  simp [State.memRead]

theorem State.memRead_getElem (s : State) {a k j : Nat} (h : j < (s.memRead a k).length) :
    (s.memRead a k)[j] = s.byteAt (a + j) := by
  simp [State.memRead]

/-- `MemRead` gives the bytes `MemWrite` stored. -/
theorem State.memRead_memWrite (s : State) (a : Nat) (bs : Bytes) :
    (s.memWrite a bs).memRead a bs.length = bs := by
  refine List.ext_getElem (by simp) fun j h₁ h₂ => ?_
  rw [State.memRead_getElem, State.byteAt_memWrite, if_pos (by omega)]
  simp [List.getElem?_eq_getElem h₂]

/-- Two states with the same listed bytes and the same drawing hold the same bytes. -/
theorem State.byteAt_congr {s t : State} (hb : t.buf = s.buf) (hd : t.bufDraw = s.bufDraw) (i : Nat) :
    t.byteAt i = s.byteAt i := by
  simp [State.byteAt, hb, hd]

theorem State.memRead_congr {s t : State} (h : ∀ i, t.byteAt i = s.byteAt i) (a k : Nat) :
    t.memRead a k = s.memRead a k := by
  simp [State.memRead, h]

end Sys2Proof.Machine
end

