-- ==== Sys2Proof/Laws/Ops.lean ====
section
/-!
SUPPORT. One lemma per shared operation that says everything it can do, for proofs to cite instead of
unfolding it.
-/

namespace Sys2Proof.Machine

/-- Reading BUF[0..LEN): either LEN does not fit and RANGE(1) is raised, or the input is handed on. -/
theorem State.withInput_cases (s : State) (m : Bytes → State) :
    (s.bufCap < s.len.toNat ∧ s.withInput m = s.raised (.range 1 s.len.toNat)) ∨
      (s.len.toNat ≤ s.bufCap ∧ s.withInput m = m (s.memRead 0 s.len.toNat)) := by
  unfold State.withInput State.lenOperand State.input
  by_cases h : s.bufCap < s.len.toNat
  · exact .inl ⟨h, if_pos h⟩
  · exact .inr ⟨by omega, if_neg h⟩

/-- Storing a frame: either it does not fit and RANGE(2) is raised, or it is written at offset 0. -/
theorem State.storeFrame_cases (s : State) (n : Nat) (p : Nat → Bytes) :
    (s.bufCap < paddedSize n ∧ s.storeFrame n p = s.raised (.range 2 (paddedSize n))) ∨
      (paddedSize n ≤ s.bufCap ∧
        s.storeFrame n p =
          ((s.memWrite 0 (buildFrame (p n))).setFrame (paddedSize n) (prefixSize n) n).completed) := by
  unfold State.storeFrame
  by_cases h : s.bufCap < paddedSize n
  · exact .inl ⟨h, if_pos h⟩
  · exact .inr ⟨by omega, if_neg h⟩

/-- Unmixing a blob: RANGE(1), NOT_ALIGNED, the empty blob, a frame error with the candidate left in
BUF, or a valid frame. -/
theorem State.unmix_cases (s e : State) (m : State → Bytes → Nat → Nat → State) :
    (s.bufCap < s.len.toNat ∧ s.unmix e m = s.raised (.range 1 s.len.toNat)) ∨
    (s.len.toNat ≤ s.bufCap ∧ s.len.toNat % 3 ≠ 0 ∧
      s.unmix e m = s.raised (.notAligned s.len.toNat)) ∨
    (s.len.toNat = 0 ∧ s.unmix e m = e.completed) ∨
    (s.len.toNat ≤ s.bufCap ∧ s.len.toNat % 3 = 0 ∧ s.len.toNat ≠ 0 ∧
      ∃ f, f = mix (s.memRead 0 s.len.toNat) ∧
        ((∃ err, parseFrame f = .error err ∧ s.unmix e m = (s.memWrite 0 f).raised err) ∨
          ∃ l n, parseFrame f = .ok (l, n) ∧
            s.unmix e m = (m (s.memWrite 0 f) f l n).completed)) := by
  unfold State.unmix
  rcases s.withInput_cases _ with ⟨h, hu⟩ | ⟨h, hu⟩
  · exact .inl ⟨h, hu⟩
  · refine .inr ?_
    rw [hu]
    unfold State.lenOperand
    by_cases h3 : s.len.toNat % 3 = 0
    · by_cases h0 : s.len.toNat = 0
      · exact .inr (.inl ⟨h0, by simp [h0]⟩)
      · refine .inr (.inr ⟨h, h3, h0, _, rfl, ?_⟩)
        rw [if_neg (by simpa using h3), if_neg h0]
        cases hp : parseFrame (mix (s.memRead 0 s.len.toNat)) with
        | error err => exact .inl ⟨err, rfl, by simp [hp]⟩
        | ok ln => exact .inr ⟨ln.1, ln.2, rfl, by simp [hp]⟩
    · exact .inl ⟨h, h3, if_pos h3⟩

/-- A host access: an access error faults, a legal access gives the next state. -/
theorem hostStep_cases (a : Access) (s : State) :
    (busOp s.bufCap a = none ∧ hostStep a s = .fault (.accessError a)) ∨
      ∃ op, busOp s.bufCap a = some op ∧ hostStep a s = .next (s.busStep op) := by
  unfold hostStep
  cases h : busOp s.bufCap a with
  | none => exact .inl ⟨rfl, rfl⟩
  | some op => exact .inr ⟨op, rfl, rfl⟩

/-- The block's turn: idle, a command, or an illegal word. -/
theorem blockStep_cases (s : State) :
    (s.busy = false ∧ blockStep s = .next s) ∨
    (∃ i, s.busy = true ∧ decodeCommand s.pending = some i ∧ blockStep s = exec i s) ∨
    (s.busy = true ∧ decodeCommand s.pending = none ∧
      blockStep s = .next (s.raised (.illegalCommand s.pending))) := by
  unfold blockStep pendingCommand illegalCommand
  cases hb : s.busy with
  | false => exact .inl ⟨rfl, rfl⟩
  | true =>
    cases hd : decodeCommand s.pending with
    | none => exact .inr (.inr ⟨rfl, rfl, rfl⟩)
    | some i => exact .inr (.inl ⟨i, rfl, rfl, rfl⟩)

/-- A step is the host's, the platform's or the block's turn. -/
theorem step_cases (s : State) :
    (∃ a r, s.turns = .host a :: r ∧ step s = hostStep a s.nextTurn) ∨
    (∃ r, s.turns = .powerOn :: r ∧ step s = .next s.nextTurn.powerOnReset) ∨
    ((s.turns = [] ∨ ∃ r, s.turns = .block :: r) ∧ step s = blockStep s.nextTurn) := by
  unfold step
  cases h : s.turns with
  | nil => exact .inr (.inr ⟨.inl rfl, rfl⟩)
  | cons x r =>
    cases x with
    | host a => exact .inl ⟨a, r, rfl, rfl⟩
    | block => exact .inr (.inr ⟨.inr ⟨r, rfl⟩, rfl⟩)
    | powerOn => exact .inr (.inl ⟨r, rfl, rfl⟩)

/-- A soft reset clears the registers, and draws BUF anew if a command was pending. -/
theorem State.softReset_cases (s : State) :
    (s.busy = true ∧ s.softReset = s.clearRegisters.drawBuf) ∨
      (s.busy = false ∧ s.softReset = s.clearRegisters) := by
  unfold State.softReset
  cases s.busy <;> simp

end Sys2Proof.Machine
end

