-- ==== Sys2Proof/Laws/Commands.lean ====
section
/-!
SUPPORT. One lemma per command that says everything its execution step can do, and that it always
answers a next state.
-/

namespace Sys2Proof.Machine

theorem execVlqEnc_spec (s : State) :
    exec .vlqEnc s =
      .next ((s.memWrite 0 (vlqEncode s.value.toNat)).setRlen
        (word (vlqEncode s.value.toNat).length)).completed := rfl

theorem execVlqDec_cases (s : State) : ∃ t, exec .vlqDec s = .next t ∧
    ((s.bufCap < s.len.toNat ∧ t = s.raised (.range 1 s.len.toNat)) ∨
    (∃ sub off, s.len.toNat ≤ s.bufCap ∧ vlqDecode (s.memRead 0 s.len.toNat) = .bad sub off ∧
      t = s.raised (.badLengthField sub off)) ∨
    (∃ v k, s.len.toNat ≤ s.bufCap ∧ vlqDecode (s.memRead 0 s.len.toNat) = .ok v k ∧
      t = ((s.setValue (word v)).setRlen (word k)).completed)) := by
  refine ⟨_, rfl, ?_⟩
  rcases s.withInput_cases _ with ⟨h, hu⟩ | ⟨h, hu⟩
  · exact .inl ⟨h, hu⟩
  · rw [hu]
    cases hd : vlqDecode (s.memRead 0 s.len.toNat) with
    | bad sub off => exact .inr (.inl ⟨sub, off, h, rfl, by simp⟩)
    | ok v k => exact .inr (.inr ⟨v, k, h, rfl, by simp⟩)

theorem execPadsize_cases (s : State) : ∃ t, exec .padsize s = .next t ∧
    ((2 ^ 64 - 1 < paddedSize s.value.toNat ∧ t = s.raised (.range 3 (2 ^ 64 - 1))) ∨
    (paddedSize s.value.toNat ≤ 2 ^ 64 - 1 ∧
      t = (s.setFrame (paddedSize s.value.toNat) (prefixSize s.value.toNat)
        s.value.toNat).completed)) := by
  unfold exec execPadsize State.valueOperand
  by_cases h : 2 ^ 64 - 1 < paddedSize s.value.toNat
  · exact ⟨_, if_pos h, .inl ⟨h, rfl⟩⟩
  · exact ⟨_, if_neg h, .inr ⟨by omega, rfl⟩⟩

theorem execBuild_cases (s : State) : ∃ t, exec .build s = .next t ∧
    ((s.bufCap < s.len.toNat ∧ t = s.raised (.range 1 s.len.toNat)) ∨
    (s.len.toNat ≤ s.bufCap ∧ s.bufCap < paddedSize s.len.toNat ∧
      t = s.raised (.range 2 (paddedSize s.len.toNat))) ∨
    (s.len.toNat ≤ s.bufCap ∧ paddedSize s.len.toNat ≤ s.bufCap ∧
      t = ((s.memWrite 0 (buildFrame (s.memRead 0 s.len.toNat))).setFrame
        (paddedSize s.len.toNat) (prefixSize s.len.toNat) s.len.toNat).completed)) := by
  refine ⟨_, rfl, ?_⟩
  rcases s.withInput_cases _ with ⟨h, hu⟩ | ⟨h, hu⟩
  · exact .inl ⟨h, hu⟩
  · rw [hu]
    rcases s.storeFrame_cases s.lenOperand (fun _ => s.memRead 0 s.len.toNat) with
      ⟨hp, hf⟩ | ⟨hp, hf⟩
    · exact .inr (.inl ⟨h, hp, hf⟩)
    · exact .inr (.inr ⟨h, hp, hf⟩)

theorem execBuildz_cases (s : State) : ∃ t, exec .buildz s = .next t ∧
    ((s.bufCap < paddedSize s.len.toNat ∧ t = s.raised (.range 2 (paddedSize s.len.toNat))) ∨
    (paddedSize s.len.toNat ≤ s.bufCap ∧
      t = ((s.memWrite 0 (buildFrame (List.replicate s.len.toNat 0))).setFrame
        (paddedSize s.len.toNat) (prefixSize s.len.toNat) s.len.toNat).completed)) :=
  ⟨_, rfl, s.storeFrame_cases s.lenOperand fun n => List.replicate n 0⟩

theorem execParse_cases (s : State) : ∃ t, exec .parse s = .next t ∧
    ((s.bufCap < s.len.toNat ∧ t = s.raised (.range 1 s.len.toNat)) ∨
    (∃ e, s.len.toNat ≤ s.bufCap ∧ parseFrame (s.memRead 0 s.len.toNat) = .error e ∧
      t = s.raised e) ∨
    (∃ l n, s.len.toNat ≤ s.bufCap ∧ parseFrame (s.memRead 0 s.len.toNat) = .ok (l, n) ∧
      t = (s.setFrame s.len.toNat l n).completed)) := by
  refine ⟨_, rfl, ?_⟩
  rcases s.withInput_cases _ with ⟨h, hu⟩ | ⟨h, hu⟩
  · exact .inl ⟨h, hu⟩
  · rw [hu]
    cases hd : parseFrame (s.memRead 0 s.len.toNat) with
    | error e => exact .inr (.inl ⟨e, h, rfl, by simp⟩)
    | ok ln => exact .inr (.inr ⟨ln.1, ln.2, h, rfl, by simp [State.lenOperand]⟩)

theorem execReseal_cases (s : State) : ∃ t, exec .reseal s = .next t ∧
    ((s.bufCap < s.len.toNat ∧ t = s.raised (.range 1 s.len.toNat)) ∨
    (∃ e, s.len.toNat ≤ s.bufCap ∧ parseHeader (s.memRead 0 s.len.toNat) = .error e ∧
      t = s.raised e) ∨
    (∃ l n, s.len.toNat ≤ s.bufCap ∧ parseHeader (s.memRead 0 s.len.toNat) = .ok (l, n) ∧
      t = ((s.memWrite (l + n) (slice (reseal (s.memRead 0 s.len.toNat) l n) (l + n)
        (l + n + checksumSize n))).setFrame s.len.toNat l n).completed)) := by
  refine ⟨_, rfl, ?_⟩
  rcases s.withInput_cases _ with ⟨h, hu⟩ | ⟨h, hu⟩
  · exact .inl ⟨h, hu⟩
  · rw [hu]
    cases hd : parseHeader (s.memRead 0 s.len.toNat) with
    | error e => exact .inr (.inl ⟨e, h, rfl, by simp⟩)
    | ok ln => exact .inr (.inr ⟨ln.1, ln.2, h, rfl, by simp [State.lenOperand]⟩)

theorem execMix_cases (s : State) : ∃ t, exec .mix s = .next t ∧
    ((s.bufCap < s.len.toNat ∧ t = s.raised (.range 1 s.len.toNat)) ∨
    (s.len.toNat ≤ s.bufCap ∧ s.len.toNat % 3 ≠ 0 ∧ t = s.raised (.notAligned s.len.toNat)) ∨
    (s.len.toNat ≤ s.bufCap ∧ s.len.toNat % 3 = 0 ∧
      t = ((s.memWrite 0 (mix (s.memRead 0 s.len.toNat))).setRlen s.len).completed)) := by
  refine ⟨_, rfl, ?_⟩
  rcases s.withInput_cases _ with ⟨h, hu⟩ | ⟨h, hu⟩
  · exact .inl ⟨h, hu⟩
  · rw [hu]
    unfold State.lenOperand
    by_cases h3 : s.len.toNat % 3 = 0
    · exact .inr (.inr ⟨h, h3, if_neg (by simpa using h3)⟩)
    · exact .inr (.inl ⟨h, h3, if_pos h3⟩)

theorem execEncode_cases (s : State) : ∃ t, exec .encode s = .next t ∧
    ((s.bufCap < s.len.toNat ∧ t = s.raised (.range 1 s.len.toNat)) ∨
    (s.len.toNat = 0 ∧ t = (s.setRlen 0).completed) ∨
    (s.len.toNat ≤ s.bufCap ∧ s.len.toNat ≠ 0 ∧ s.bufCap < paddedSize s.len.toNat ∧
      t = s.raised (.range 2 (paddedSize s.len.toNat))) ∨
    (s.len.toNat ≤ s.bufCap ∧ s.len.toNat ≠ 0 ∧ paddedSize s.len.toNat ≤ s.bufCap ∧
      t = ((s.memWrite 0 (mix (buildFrame (s.memRead 0 s.len.toNat)))).setRlen
        (word (paddedSize s.len.toNat))).completed)) := by
  refine ⟨_, rfl, ?_⟩
  rcases s.withInput_cases _ with ⟨h, hu⟩ | ⟨h, hu⟩
  · exact .inl ⟨h, hu⟩
  · rw [hu]
    unfold State.lenOperand
    by_cases h0 : s.len.toNat = 0
    · exact .inr (.inl ⟨h0, if_pos h0⟩)
    · by_cases hp : s.bufCap < paddedSize s.len.toNat
      · exact .inr (.inr (.inl ⟨h, h0, hp, (if_neg h0).trans (if_pos hp)⟩))
      · exact .inr (.inr (.inr ⟨h, h0, by omega, (if_neg h0).trans (if_neg hp)⟩))

theorem execDecode_spec (s : State) :
    exec .decode s = .next (s.unmix ((s.setRlen 0).setPlen 0) fun s f l n =>
      ((s.memWrite 0 (payloadOf f l n)).setRlen (word n)).setPlen (word n)) := rfl

theorem execDecodeView_spec (s : State) :
    exec .decodeView s = .next (s.unmix s fun s f l n => s.setFrame f.length l n) := rfl

/-- Every command answers a next state in every state (10_state.md R43). -/
theorem exec_next (i : Instr) (s : State) : ∃ t, exec i s = .next t := by
  cases i with
  | vlqEnc => exact ⟨_, rfl⟩
  | padsize => exact (execPadsize_cases s).imp fun _ h => h.1
  | vlqDec | build | buildz | parse | reseal | mix | encode | decode | decodeView => exact ⟨_, rfl⟩

end Sys2Proof.Machine
end

