-- ==== Sys2Proof/Laws/PerInstr.lean ====
section
/-!
SUPPORT. The family EncodedWordLegal: each command's encoded word is a legal command word.
-/

namespace Sys2Proof.Laws

/-- The word the encoder gives for a command is legal: RSVD 0, an assigned opcode
(30_encoding.md R70, R73). -/
def EncodedWordLegal.Statement (i : Instr) : Prop := WellFormed.commandWord (encode i) = true

theorem EncodedWordLegal.vlqEnc : EncodedWordLegal.Statement .vlqEnc := rfl
theorem EncodedWordLegal.vlqDec : EncodedWordLegal.Statement .vlqDec := rfl
theorem EncodedWordLegal.padsize : EncodedWordLegal.Statement .padsize := rfl
theorem EncodedWordLegal.build : EncodedWordLegal.Statement .build := rfl
theorem EncodedWordLegal.buildz : EncodedWordLegal.Statement .buildz := rfl
theorem EncodedWordLegal.parse : EncodedWordLegal.Statement .parse := rfl
theorem EncodedWordLegal.reseal : EncodedWordLegal.Statement .reseal := rfl
theorem EncodedWordLegal.mix : EncodedWordLegal.Statement .mix := rfl
theorem EncodedWordLegal.encode : EncodedWordLegal.Statement .encode := rfl
theorem EncodedWordLegal.decode : EncodedWordLegal.Statement .decode := rfl
theorem EncodedWordLegal.decodeView : EncodedWordLegal.Statement .decodeView := rfl

end Sys2Proof.Laws
end

