-- ==== Sys2Proof/Tests/Slice0.lean ====
section
/-!
SUPPORT. The model's own tests: legality, decoding, one step of each command and of the host's accesses,
with values from 95_test_vectors.md and from the rules' examples; then, for each statement with
hypotheses, a state and operands that meet them, one per clause, at the ends of its ranges.
-/

namespace Sys2Proof.Tests

open Sys2Proof.Machine

/-! ## Helpers -/

/-- An idle block of the smallest capacity, 16, with `bytes` at BUF[0..) and their number in LEN. -/
def withBytes (bytes : Bytes) : State :=
  { State.reset with bufCap := 16, buf := Memory.writeAll [] 0 bytes, len := word bytes.length }

/-- The same with LEN as given. -/
def withLen (n : Nat) : State := { withBytes [] with len := word n }

/-- The same with VALUE as given. -/
def withValue (v : Nat) : State := { withBytes [] with value := word v }

/-- A state in which the word `w` is pending and the next turns are `turns`. -/
def pendingWord (w : Nat) (turns : List Turn) : State :=
  { (withBytes [0x61]).accept (word w) with turns := turns }

/-- An idle state with the next turns. -/
def idle (turns : List Turn) : State := { withBytes [0x61] with turns := turns }

/-- The state a command leaves. -/
def after (i : Instr) (s : State) : State :=
  match exec i s with
  | .next t => t
  | .fault _ => s
  | .refused _ => s

/-- The state a step leaves. -/
def stepped (s : State) : State :=
  match step s with
  | .next t => t
  | .fault _ => s
  | .refused _ => s

theorem exec_after (i : Instr) (s : State) : exec i s = .next (after i s) := by
  obtain ⟨t, h⟩ := exec_next i s
  simp [after, h]

/-- ERRCODE, EINFO0, EINFO1 and EINFO2. -/
def report (s : State) : Byte × Word × Word × Word := (s.errcode, s.einfo0, s.einfo1, s.einfo2)

/-- RLEN, POFF and PLEN. -/
def results (s : State) : Word × Word × Word := (s.rlen, s.poff, s.plen)

/-! ## Legality: each check refuses an ill-formed term -/

/-- 30_encoding.md R75: RSVD not 0. -/
theorem test_wf_reserved_bits : WellFormed.commandWord 0x109 = false := by decide
/-- 30_encoding.md R75: OP 0x00. -/
theorem test_wf_opcode_zero : WellFormed.commandWord 0x00 = false := by decide
/-- 30_encoding.md R75: OP 0x0C, the first one past the map. -/
theorem test_wf_opcode_past_map : WellFormed.commandWord 0x0C = false := by decide
/-- 30_encoding.md R73: the last assigned opcode. -/
theorem test_wf_legal_word : WellFormed.commandWord 0x0B = true := by decide
/-- 20_memory.md R55: a REG access that is not 64 bits wide. -/
theorem test_wf_reg_width : WellFormed.regAccess 0x08 32 = false := by decide
/-- 20_memory.md R55: a REG access that is not 8-byte aligned. -/
theorem test_wf_reg_alignment : WellFormed.regAccess 0x0C 64 = false := by decide
/-- 20_memory.md R55: a REG offset above 0xFF. -/
theorem test_wf_reg_range : WellFormed.regAccess 0x100 64 = false := by decide
/-- 20_memory.md R55: a BUF access wider than 8 bits. -/
theorem test_wf_buf_width : WellFormed.bufAccess 16 0 16 = false := by decide
/-- 20_memory.md R55: a BUF offset at BUF_CAP. -/
theorem test_wf_buf_range : WellFormed.bufAccess 16 16 8 = false := by decide
/-- 20_memory.md R53, R54: the last legal access of each space. -/
theorem test_wf_legal_access :
    WellFormed.access 16 ⟨.reg, 0xF8, 64, .read⟩ = true ∧
      WellFormed.access 16 ⟨.buf, 15, 8, .write 0⟩ = true := by decide

/-! ## Decoding: OP in bits 7 to 0, RSVD above (30_encoding.md R70), opcodes of R73 -/

theorem test_decode_vlqEnc : decodeTableWord 64 0b00000001 = some .vlqEnc := by decide
theorem test_decode_vlqDec : decodeTableWord 64 0b00000010 = some .vlqDec := by decide
theorem test_decode_padsize : decodeTableWord 64 0b00000011 = some .padsize := by decide
theorem test_decode_build : decodeTableWord 64 0b00000100 = some .build := by decide
theorem test_decode_buildz : decodeTableWord 64 0b00000101 = some .buildz := by decide
theorem test_decode_parse : decodeTableWord 64 0b00000110 = some .parse := by decide
theorem test_decode_reseal : decodeTableWord 64 0b00000111 = some .reseal := by decide
theorem test_decode_mix : decodeTableWord 64 0b00001000 = some .mix := by decide
theorem test_decode_encode : decodeTableWord 64 0b00001001 = some .encode := by decide
theorem test_decode_decode : decodeTableWord 64 0b00001010 = some .decode := by decide
theorem test_decode_decodeView : decodeTableWord 64 0b00001011 = some .decodeView := by decide

/-- 95_test_vectors.md section 7.2: the illegal words. -/
theorem test_decode_illegal : ∀ w ∈ [0x00, 0x0C, 0xFF, 0x1FF, 0x109, 2 ^ 63 + 9],
    decodeTableWord 64 w = none := by decide

/-- Each register's offset leads back to it (10_state.md R23), and 0x58 is reserved (R39). -/
theorem test_register_offsets : ∀ r ∈ [Reg.cmd, .status, .ctrl, .len, .value, .rlen, .poff, .plen,
    .einfo0, .einfo1, .einfo2], regAt (offsetOf r) = some r ∧ regAt 0x58 = none := by decide

/-- 30_encoding.md R82, its two worked expansions. -/
theorem test_expand_program :
    expandProgram [.wr .len 1, .cmd .encode] =
      [.host ⟨.reg, 0x18, 64, .write 1⟩, .host ⟨.reg, 0x00, 64, .write 9⟩] := by decide

/-! ## One execution step of each command (95_test_vectors.md section 7, and the rules' examples) -/

theorem test_vlqEnc_300 :
    (after .vlqEnc (withValue 300)).memRead 0 2 = [0xAC, 0x02] ∧
      results (after .vlqEnc (withValue 300)) = (2, 0, 0) := by decide +kernel
/-- 40_vlq.md R110, corner case. -/
theorem test_vlqEnc_max :
    (after .vlqEnc (withValue (2 ^ 64 - 1))).memRead 0 10 = List.replicate 9 0xFF ++ [0x01] := by
  decide +kernel
theorem test_vlqDec_300 :
    (after .vlqDec (withBytes [0xAC, 0x02])).value = 300 ∧
      results (after .vlqDec (withBytes [0xAC, 0x02])) = (2, 0, 0) := by decide +kernel
theorem test_vlqDec_overflow :
    report (after .vlqDec (withBytes (List.replicate 9 0xFF ++ [0x02]))) = (2, 2, 9, 0) := by
  decide +kernel
theorem test_padsize_128 : results (after .padsize (withValue 128)) = (132, 2, 128) := by
  decide +kernel
theorem test_padsize_range :
    report (after .padsize (withValue (2 ^ 64 - 11))) = (6, 3, word (2 ^ 64 - 1), 0) := by
  decide +kernel
theorem test_build_a :
    (after .build (withBytes [0x61])).memRead 0 3 = [0x01, 0x61, 0xB2] ∧
      results (after .build (withBytes [0x61])) = (3, 1, 1) := by decide +kernel
theorem test_build_range_order :
    report (after .build (withLen 17)) = (6, 1, 17, 0) ∧
      report (after .build (withLen 14)) = (6, 2, 18, 0) := by decide +kernel
theorem test_buildz_two :
    (after .buildz (withLen 2)).memRead 0 6 = [0x02, 0x00, 0x00, 0xBE, 0xBF, 0xC0] ∧
      results (after .buildz (withLen 2)) = (6, 1, 2) := by decide +kernel
theorem test_buildz_saturates :
    report (after .buildz (withLen (2 ^ 64 - 1))) = (6, 2, word (2 ^ 64 - 1), 0) := by decide +kernel
theorem test_parse_a : results (after .parse (withBytes [0x01, 0x61, 0xB2])) = (3, 1, 1) := by
  decide +kernel
theorem test_parse_errors :
    report (after .parse (withBytes [0x80, 0x00, 0x00])) = (2, 3, 1, 0) ∧
      report (after .parse (withBytes [0x02, 0x61, 0xB2])) = (3, 2, 6, 3) ∧
      report (after .parse (withBytes [0x01, 0x61, 0xB3])) = (4, 2, 0, 0) := by decide +kernel
theorem test_reseal_a :
    (after .reseal (withBytes [0x01, 0x61, 0x00])).memRead 0 3 = [0x01, 0x61, 0xB2] ∧
      results (after .reseal (withBytes [0x01, 0x61, 0x00])) = (3, 1, 1) := by decide +kernel
theorem test_reseal_not_aligned : report (after .reseal (withLen 4)) = (1, 4, 0, 0) := by
  decide +kernel
theorem test_mix_a :
    (after .mix (withBytes [0x01, 0x61, 0xB2])).memRead 0 3 = [0x3D, 0xA1, 0x14] ∧
      results (after .mix (withBytes [0x01, 0x61, 0xB2])) = (3, 0, 0) := by decide +kernel
theorem test_mix_range : report (after .mix (withLen 18)) = (6, 1, 18, 0) := by decide +kernel
theorem test_encode_a :
    (after .encode (withBytes [0x61])).memRead 0 3 = [0x3D, 0xA1, 0x14] ∧
      results (after .encode (withBytes [0x61])) = (3, 0, 0) := by decide +kernel
theorem test_encode_b :
    (after .encode (withBytes [0x62])).memRead 0 3 = [0xA4, 0x9C, 0x5D] := by decide +kernel
theorem test_decode_a :
    (after .decode (withBytes [0x3D, 0xA1, 0x14])).memRead 0 3 = [0x61, 0x61, 0xB2] ∧
      results (after .decode (withBytes [0x3D, 0xA1, 0x14])) = (1, 0, 1) := by decide +kernel
theorem test_decode_keeps_candidate :
    report (after .decode (withBytes [0x3D, 0xA1, 0x15])) = (3, 32, 36, 3) ∧
      (after .decode (withBytes [0x3D, 0xA1, 0x15])).memRead 0 3 = [0x20, 0x21, 0xD4] := by
  decide +kernel
theorem test_decodeView_a :
    (after .decodeView (withBytes [0x3D, 0xA1, 0x14])).memRead 0 3 = [0x01, 0x61, 0xB2] ∧
      results (after .decodeView (withBytes [0x3D, 0xA1, 0x14])) = (3, 1, 1) := by decide +kernel
theorem test_decodeView_unterminated :
    report (after .decodeView (withBytes [0x32, 0x80, 0x4F])) = (2, 1, 3, 0) ∧
      (after .decodeView (withBytes [0x32, 0x80, 0x4F])).memRead 0 3 = [0x80, 0x80, 0x80] := by
  decide +kernel

/-- Twelve zero bytes through every strided pass (95_test_vectors.md section 6.2). -/
theorem test_mix_twelve :
    mix (List.replicate 12 0) =
      [0x5D, 0x9F, 0x01, 0x71, 0xA9, 0x05, 0x18, 0xCA, 0xEE, 0x0C, 0x1C, 0xDE] := by decide +kernel
/-- The rotation angles 1, 3, 5 and 7 (95_test_vectors.md section 5.4). -/
theorem test_rotation_angles :
    passP4 [0, 1, 2, 3, 4, 5, 6, 7, 8, 9, 10, 11] =
      [0x00, 0x02, 0x04, 0x18, 0x20, 0x28, 0xC0, 0xE1, 0x00, 0x85, 0x05, 0x84] := by decide +kernel
/-- 41_framer.md R120, the catalogued check value of "123456789". -/
theorem test_crc8_check :
    crc8 [0x31, 0x32, 0x33, 0x34, 0x35, 0x36, 0x37, 0x38, 0x39] = 0x4B := by decide +kernel

/-! ## Steps (95_test_vectors.md section 7 and section 8) -/

/-- A pending ENCODE executes at the block's turn: STATUS 0x00090002. -/
theorem test_step_encode : (stepped (pendingWord 0x09 [.block])).statusWord = 0x00090002 := by
  decide +kernel
/-- The word 0x109 is illegal although its OP is ENCODE: STATUS 0x00090506, EINFO0 the whole word. -/
theorem test_step_illegal :
    (stepped (pendingWord 0x109 [])).statusWord = 0x00090506 ∧
      (stepped (pendingWord 0x109 [])).einfo0 = 0x109 := by decide +kernel
/-- A CMD write while idle is accepted. -/
theorem test_step_accept :
    (stepped (idle [.host (regWriteAccess .cmd 0x09)])).busy = true ∧
      (stepped (idle [.host (regWriteAccess .cmd 0x09)])).lastop = 0x09 := by decide +kernel
/-- A BUF write while BUSY is dropped and sets OVR (20_memory.md R56). -/
theorem test_step_busy_write :
    (stepped (pendingWord 0x09 [.host (bufWriteAccess 0 0x7A)])).ovr = true ∧
      (stepped (pendingWord 0x09 [.host (bufWriteAccess 0 0x7A)])).byteAt 0 = 0x61 := by
  decide +kernel
/-- A soft reset drops the pending command (70_reset_and_hazards.md R232). -/
theorem test_step_soft_reset :
    (stepped (pendingWord 0x09 [.host (regWriteAccess .ctrl 2)])).statusWord = 0 ∧
      (stepped (pendingWord 0x09 [.host (regWriteAccess .ctrl 2)])).buf = [] := by decide +kernel
/-- `withFetchWord`: the very next step runs the word, from reset too. -/
theorem test_fetch_from_reset :
    (stepped (State.reset.withFetchWord 64 0x08)).statusWord = 0x00080002 := by decide +kernel

/-! ## Witnesses: the hypotheses of each statement can be met -/

/-- A pending ENCODE before each of the two forms of the block's turn. -/
def blockTurns : List (List Turn) := [[], [.block]]

theorem blockTurns_ok {ts : List Turn} (h : ts ∈ blockTurns) :
    ts = [] ∨ ∃ r, ts = .block :: r := by
  simp only [blockTurns, List.mem_cons, List.not_mem_nil, or_false] at h
  exact h.imp id fun h => ⟨[], h⟩

/-- Every reachable form of an accepted state satisfies the invariant. -/
theorem pendingWord_inv (ts : List Turn) : (pendingWord 0x0C ts).Inv where
  cap := ⟨(by decide : 16 ≤ 16), (by decide : 16 ≤ 2 ^ 64 - 1)⟩
  bufWf := by show Memory.wf (pendingWord 0x0C []).buf; decide
  bufWithin := by show Memory.within 16 (pendingWord 0x0C []).buf; decide
  errIff := rfl
  codeLegal := by show (0 : Byte).toNat ≤ 6; decide
  busyNotDone := fun _ => ⟨rfl, rfl⟩
  busyLastop := fun _ => rfl
  noResults := fun _ => ⟨rfl, rfl, rfl⟩
  noInfo := fun _ => ⟨rfl, rfl, rfl⟩

theorem capOk : (withBytes []).CapOk := ⟨by decide, by decide⟩

theorem test_witness_AccessErrorIsFault :
    ∀ a ∈ [Access.mk .reg 0x08 32 .read, ⟨.reg, 0xFC, 64, .read⟩, ⟨.reg, 0x100, 64, .write 0⟩,
        ⟨.buf, 0, 16, .read⟩, ⟨.buf, 16, 8, .write 0⟩],
      (pendingWord 9 [.host a]).turns = .host a :: [] ∧
        WellFormed.access (pendingWord 9 [.host a]).bufCap a = false := by
  intro a ha
  refine ⟨rfl, ?_⟩
  revert a
  decide

theorem test_witness_StepRunsPendingCommand : ∀ ts ∈ blockTurns,
    (pendingWord 9 ts).busy = true ∧
      ((pendingWord 9 ts).turns = [] ∨ ∃ r, (pendingWord 9 ts).turns = .block :: r) ∧
      decodeCommand (pendingWord 9 ts).pending = some .encode :=
  fun _ h => ⟨rfl, blockTurns_ok h, (by decide : decodeCommand (word 9) = some .encode)⟩

theorem test_witness_IllegalWordCompletesWithError : ∀ ts ∈ blockTurns,
    ((pendingWord 0 ts).busy = true ∧ (pendingWord 0 ts).pending = 0) ∧
      (pendingWord 0x0C ts).busy = true ∧ 0x0B < (pendingWord 0x0C ts).pending.toNat ∧
      ((pendingWord 0x0C ts).turns = [] ∨ ∃ r, (pendingWord 0x0C ts).turns = .block :: r) ∧
      (pendingWord 0x0C ts).Inv :=
  fun ts h => ⟨⟨rfl, rfl⟩, rfl, (by decide : 0x0B < (word 0x0C).toNat), blockTurns_ok h,
    pendingWord_inv ts⟩

theorem test_witness_IdleBlockTurnKeepsState : ∀ ts ∈ blockTurns,
    (idle ts).busy = false ∧ ((idle ts).turns = [] ∨ ∃ r, (idle ts).turns = .block :: r) :=
  fun _ h => ⟨rfl, blockTurns_ok h⟩

/-- Accesses that a pending command must survive: polls, dropped writes, IE set, a reserved offset. -/
def calmAccesses : List Access :=
  [regReadAccess .status, regWriteAccess .cmd 0x0A, regWriteAccess .len 5, regWriteAccess .ctrl 1,
    regWriteAccess .status 0xA, bufWriteAccess 15 0xFF, bufReadAccess 15, ⟨.reg, 0xF8, 64, .write 2⟩]

theorem test_witness_PendingCommandIsExecuted :
    (pendingWord 9 (calmAccesses.map .host ++ [.block])).busy = true ∧
      ∀ x ∈ (pendingWord 9 (calmAccesses.map .host ++ [.block])).turns,
        calmTurn (pendingWord 9 []).bufCap x = true := by decide

theorem test_witness_HostCannotDisturbPendingCommand : ∀ a ∈ calmAccesses,
    (pendingWord 9 [.host a]).busy = true ∧ (pendingWord 9 [.host a]).turns = .host a :: [] ∧
      calmTurn (pendingWord 9 [.host a]).bufCap (.host a) = true := by decide

theorem test_witness_CommandAcceptance :
    (idle [.host (regWriteAccess .cmd 9)]).busy = false ∧
      (idle [.host (regWriteAccess .cmd 9)]).turns = .host (regWriteAccess .cmd 9) :: [] := by decide

/-- One access for each clause of the two statements on host accesses, at the ends of the ranges. -/
def clauseAccesses : List Access :=
  [regWriteAccess .len 1, bufWriteAccess 15 1, regWriteAccess .status 2, regWriteAccess .ctrl 1,
    regWriteAccess .einfo2 1, ⟨.reg, 0x58, 64, .write 1⟩, ⟨.reg, 0xF8, 64, .write 1⟩,
    regReadAccess .status, regReadAccess .ctrl, regReadAccess .len, ⟨.reg, 0, 64, .read⟩,
    ⟨.reg, 0xF8, 64, .read⟩, regReadAccess .value, regReadAccess .einfo2, bufReadAccess 15]

theorem test_witness_HostAccessesWhileBusy : ∀ a ∈ clauseAccesses,
    (pendingWord 9 [.host a]).busy = true ∧ (pendingWord 9 [.host a]).turns = .host a :: [] ∧
      15 < (pendingWord 9 [.host a]).bufCap ∧ (1 : Word).getLsbD 1 = false ∧
      0xF8 % 8 = 0 ∧ 0x58 % 8 = 0 := by decide

theorem test_witness_HostAccessesWhileIdle : ∀ a ∈ regWriteAccess .value 1 :: clauseAccesses,
    (idle [.host a]).busy = false ∧ (idle [.host a]).turns = .host a :: [] ∧
      15 < (idle [.host a]).bufCap := by decide

theorem test_witness_ReadsHaveNoSideEffect :
    ∀ a ∈ [Access.mk .reg 0x20 64 .read, ⟨.reg, 0xF8, 64, .read⟩, bufReadAccess 15],
      (pendingWord 9 [.host a]).turns = .host a :: [] ∧ a.dir = .read ∧
        WellFormed.access (pendingWord 9 [.host a]).bufCap a = true := by decide

theorem test_witness_CtrlWriteAndSoftReset :
    (idle [.host (regWriteAccess .ctrl 1)]).turns = .host (regWriteAccess .ctrl 1) :: [] ∧
      (1 : Word).getLsbD 1 = false ∧
      (idle [.host (regWriteAccess .ctrl 2)]).turns = .host (regWriteAccess .ctrl 2) :: [] ∧
      (pendingWord 9 [.host (regWriteAccess .ctrl 3)]).turns = .host (regWriteAccess .ctrl 3) :: [] ∧
      (2 : Word).getLsbD 1 = true ∧ (3 : Word).getLsbD 1 = true ∧ (idle []).busy = false ∧
      (pendingWord 9 []).busy = true := by decide

theorem test_witness_PowerOnTurnResets : (pendingWord 9 [.powerOn]).turns = .powerOn :: [] := rfl

/-- An idle state with DONE and OVR set. -/
def flagged (turns : List Turn) : State := { idle turns with done := true, ovr := true, ie := true }

/-- One state for each clause: the premises about the turn and the flags hold, and the step answers. -/
theorem test_witness_DoneIsWrittenOnlyInTheStatedPlaces :
    (∃ t, step (pendingWord 9 []) = .next t ∧ (pendingWord 9 []).done = false ∧ t.done = true) ∧
    (∃ t, step (flagged [.host (regWriteAccess .cmd 9)]) = .next t ∧
      (flagged [.host (regWriteAccess .cmd 9)]).busy = false ∧ t.done = false) ∧
    (∃ t, step (flagged [.host (regWriteAccess .status 2)]) = .next t ∧ t.done = false) ∧
    (∃ t, step (flagged [.host (regWriteAccess .ctrl 2)]) = .next t ∧ t.done = false) ∧
    ∃ t, step (flagged [.powerOn]) = .next t ∧ t.done = false :=
  ⟨⟨stepped (pendingWord 9 []), by rfl, by decide +kernel⟩,
    ⟨stepped (flagged [.host (regWriteAccess .cmd 9)]), by rfl, by decide +kernel⟩,
    ⟨stepped (flagged [.host (regWriteAccess .status 2)]), by rfl, by decide +kernel⟩,
    ⟨stepped (flagged [.host (regWriteAccess .ctrl 2)]), by rfl, by decide +kernel⟩,
    ⟨stepped (flagged [.powerOn]), by rfl, by decide +kernel⟩⟩

theorem test_witness_OverrunFlagIsSticky :
    (∃ t, step (flagged [.host (regWriteAccess .cmd 9)]) = .next t ∧ t.ovr = true) ∧
    (∃ t, step (pendingWord 9 [.host (regWriteAccess .value 1)]) = .next t ∧
      (pendingWord 9 [.host (regWriteAccess .value 1)]).busy = true) ∧
    (∃ t, step (pendingWord 9 [.host (bufWriteAccess 15 1)]) = .next t ∧
      (pendingWord 9 [.host (bufWriteAccess 15 1)]).ovr = false ∧ t.ovr = true) ∧
    ∃ t, step (flagged [.host (regWriteAccess .status 8)]) = .next t ∧ t.ovr = false :=
  ⟨⟨stepped (flagged [.host (regWriteAccess .cmd 9)]), by rfl, by decide +kernel⟩,
    ⟨stepped (pendingWord 9 [.host (regWriteAccess .value 1)]), by rfl, rfl⟩,
    ⟨stepped (pendingWord 9 [.host (bufWriteAccess 15 1)]), by rfl, by decide +kernel⟩,
    ⟨stepped (flagged [.host (regWriteAccess .status 8)]), by rfl, by decide +kernel⟩⟩

theorem test_witness_IrqFollowsEnableAndDone :
    (∃ t, step (pendingWord 9 [.block]) = .next t ∧ (pendingWord 9 [.block]).busy = true) ∧
    (∃ t, step (flagged [.host (regWriteAccess .ctrl 1)]) = .next t ∧ t.irq = true) ∧
    (∃ t, step (flagged [.host (regWriteAccess .ctrl 2)]) = .next t) ∧
    (∃ t, step (flagged [.host (regWriteAccess .status 2)]) = .next t) ∧
    (∃ t, step (flagged [.host (regWriteAccess .cmd 9)]) = .next t) ∧
    ∃ t, step (flagged [.powerOn]) = .next t :=
  ⟨⟨stepped (pendingWord 9 [.block]), by rfl, rfl⟩,
    ⟨stepped (flagged [.host (regWriteAccess .ctrl 1)]), by rfl, by decide +kernel⟩,
    ⟨stepped (flagged [.host (regWriteAccess .ctrl 2)]), by rfl⟩,
    ⟨stepped (flagged [.host (regWriteAccess .status 2)]), by rfl⟩,
    ⟨stepped (flagged [.host (regWriteAccess .cmd 9)]), by rfl⟩,
    ⟨stepped (flagged [.powerOn]), by rfl⟩⟩

theorem test_witness_StepKeepsInvariant :
    (pendingWord 0x0C []).Inv ∧ step (pendingWord 0x0C []) = .next (stepped (pendingWord 0x0C [])) :=
  ⟨pendingWord_inv [], by rfl⟩

/-- A success and a failure, and a failing DECODE. -/
theorem test_witness_WriteFootprint :
    (withBytes [0x61]).CapOk ∧ exec .build (withBytes [0x61]) = .next (after .build (withBytes [0x61])) ∧
      (after .build (withBytes [0x61])).err = false ∧ (after .build (withLen 17)).err = true ∧
      (after .decode (withBytes [0x3D, 0xA1, 0x15])).err = true :=
  ⟨capOk, exec_after _ _, by decide +kernel⟩

theorem test_witness_PrefixSizeValues :
    (2 ^ (7 * (1 - 1)) ≤ 1 ∧ 127 ≤ 2 ^ (7 * 1) - 1) ∧
      (2 ^ (7 * (9 - 1)) ≤ 2 ^ 56 ∧ 2 ^ 63 - 1 ≤ 2 ^ (7 * 9) - 1) ∧ 2 ^ 63 ≤ 2 ^ 64 - 1 := by decide

theorem test_witness_VlqEncodeLayout :
    0 < 2 ^ 64 ∧ 0 < (vlqEncode 0).length ∧ 9 < (vlqEncode (2 ^ 64 - 1)).length := by decide +kernel

theorem test_witness_VlqRoundTrip : vlqDecode [0xAC, 0x02, 0xFF] = .ok 300 2 := by decide +kernel

/-- One byte string for each clause; for the third and the fourth, at both ends of the offset. -/
theorem test_witness_VlqDecodeErrors :
    (([] : Bytes).length < 10 ∧ ∀ b ∈ ([] : Bytes), b.getLsbD 7 = true) ∧
    ((List.replicate 9 (0x80 : Byte)).length < 10 ∧
      ∀ b ∈ List.replicate 9 (0x80 : Byte), b.getLsbD 7 = true) ∧
    (10 ≤ (List.replicate 10 (0xFF : Byte)).length ∧
      ∀ b ∈ (List.replicate 10 (0xFF : Byte)).take 10, b.getLsbD 7 = true) ∧
    (10 ≤ (List.replicate 9 (0xFF : Byte) ++ [0x02]).length ∧
      (∀ b ∈ (List.replicate 9 (0xFF : Byte) ++ [0x02]).take 9, b.getLsbD 7 = true) ∧
      ((List.replicate 9 (0xFF : Byte) ++ [0x02]).getD 9 0).getLsbD 7 = false ∧
      0x01 < ((List.replicate 9 (0xFF : Byte) ++ [0x02]).getD 9 0).toNat) ∧
    ((∀ b ∈ ([0x80, 0x00] : Bytes).take 1, b.getLsbD 7 = true) ∧ ([0x80, 0x00] : Bytes).getD 1 0 = 0) ∧
    ((∀ b ∈ (List.replicate 9 (0x80 : Byte) ++ [0x00]).take 9, b.getLsbD 7 = true) ∧
      (List.replicate 9 (0x80 : Byte) ++ [0x00]).getD 9 0 = 0) := by decide +kernel

theorem test_witness_VlqDecFollowsItsRule :
    (withLen 17).CapOk ∧ (withLen 17).bufCap < (withLen 17).len.toNat ∧
      (withLen 16).len.toNat ≤ (withLen 16).bufCap ∧
      vlqDecode ((withLen 0).memRead 0 (withLen 0).len.toNat) = .bad 1 0 ∧
      vlqDecode ((withBytes (List.replicate 16 0)).memRead 0
        (withBytes (List.replicate 16 0)).len.toNat) = .ok 0 1 :=
  ⟨capOk, by decide +kernel⟩

theorem test_witness_PaddedSizeFitsRegister : 2 ^ 64 - 12 < 2 ^ 64 ∧ 2 ^ 64 - 11 < 2 ^ 64 := by decide

theorem test_witness_BuildFrameLayout :
    ([] : Bytes).length ≤ 2 ^ 64 - 12 ∧ 2 < checksumSize ([] : Bytes).length ∧
      1 ≤ ([0x61] : Bytes).length ∧ 0 < checksumSize ([0x61] : Bytes).length := by decide +kernel

theorem test_witness_ParseFrameChecksInOrder :
    ([0x01, 0x61] : Bytes).length % 3 ≠ 0 ∧
    vlqDecode [0x80, 0x00, 0x00] = .bad 3 1 ∧
    (vlqDecode [0x02, 0x61, 0xB2] = .ok 2 1 ∧ paddedSize 2 ≠ ([0x02, 0x61, 0xB2] : Bytes).length) ∧
    (vlqDecode [0x01, 0x61, 0xB2] = .ok 1 1 ∧ paddedSize 1 = ([0x01, 0x61, 0xB2] : Bytes).length) ∧
    (parseHeader [0x01, 0x61] matches .error (.notAligned 2)) ∧
    (parseHeader [0x02, 0x00, 0x00, 0xBE, 0xBF, 0x00] matches .ok (1, 2)) ∧
    (2 < checksumSize 2 ∧
      ([0x02, 0x00, 0x00, 0xBE, 0xBF, 0x00] : Bytes).getD 5 0 ≠ crc8 [0x00, 0x00] + 2) ∧
    (parseHeader [0x02, 0x00, 0x00, 0xBE, 0xBF, 0xC0] matches .ok (1, 2)) ∧
    ∀ j, j < checksumSize 2 → ([0x02, 0x00, 0x00, 0xBE, 0xBF, 0xC0] : Bytes).getD (1 + 2 + j) 0 =
      crc8 [0x00, 0x00] + BitVec.ofNat 8 j := by decide +kernel

theorem test_witness_BuiltFramesAreValid :
    ([] : Bytes).length ≤ 2 ^ 64 - 12 ∧ ([0x61] : Bytes).length ≤ 2 ^ 64 - 12 := by decide

theorem test_witness_ValidFramesAreBuiltFrames :
    (parseFrame [0x00, 0x01, 0x02] matches .ok (0, 0)) ∧
      (parseFrame [0x01, 0x61, 0xB2] matches .ok (1, 1)) ∧
      ([] : Bytes).length ≤ 2 ^ 64 - 12 ∧ ([0x61] : Bytes).length ≤ 2 ^ 64 - 12 := by decide +kernel

/-- The first byte of the empty frame, the first payload byte, and the last checksum byte. -/
theorem test_witness_SingleBitFlipIsDetected :
    (prefixSize 0 ≤ 0 ∧ 0 < paddedSize 0) ∧
      (prefixSize ([0x61] : Bytes).length ≤ 1 ∧ 2 < paddedSize ([0x61] : Bytes).length) ∧ 7 < 8 := by
  decide +kernel

theorem test_witness_PadsizeFollowsItsRule :
    (withValue (2 ^ 64 - 12)).value.toNat ≤ 2 ^ 64 - 12 ∧
      2 ^ 64 - 11 ≤ (withValue (2 ^ 64 - 11)).value.toNat := by decide +kernel

theorem test_witness_BuildFollowsItsRule :
    (withLen 17).CapOk ∧ (withLen 17).bufCap < (withLen 17).len.toNat ∧
      (withLen 14).len.toNat ≤ (withLen 14).bufCap ∧
      (withLen 14).bufCap < paddedSize (withLen 14).len.toNat ∧
      paddedSize (withLen 13).len.toNat ≤ (withLen 13).bufCap :=
  ⟨capOk, by decide +kernel⟩

theorem test_witness_BuildzFollowsItsRule :
    (withLen 14).CapOk ∧ (withLen 14).bufCap < paddedSize (withLen 14).len.toNat ∧
      paddedSize (withLen 13).len.toNat ≤ (withLen 13).bufCap :=
  ⟨capOk, by decide +kernel⟩

theorem test_witness_ParseFollowsItsRule :
    (withLen 17).CapOk ∧ (withLen 17).bufCap < (withLen 17).len.toNat ∧
      (parseFrame ((withLen 16).memRead 0 (withLen 16).len.toNat) matches .error (.notAligned 16)) ∧
      (parseFrame ((withBytes [0x01, 0x61, 0xB2]).memRead 0
        (withBytes [0x01, 0x61, 0xB2]).len.toNat) matches .ok (1, 1)) :=
  ⟨capOk, by decide +kernel⟩

theorem test_witness_ResealFollowsItsRule :
    (withLen 17).CapOk ∧ (withLen 17).bufCap < (withLen 17).len.toNat ∧
      (parseHeader ((withLen 16).memRead 0 (withLen 16).len.toNat) matches .error (.notAligned 16)) ∧
      (parseHeader ((withBytes [0x01, 0x61, 0x00]).memRead 0
        (withBytes [0x01, 0x61, 0x00]).len.toNat) matches .ok (1, 1)) ∧
      0 < checksumSize 1 :=
  ⟨capOk, by decide +kernel⟩

theorem test_witness_PassClosedForms : 8 < ([0, 1, 2, 3, 4, 5, 6, 7, 8] : Bytes).length := by decide

theorem test_witness_BlockPassesActBlockwise :
    ([0, 1, 2, 3, 4, 5] : Bytes).length % 3 = 0 ∧ 1 < ([0, 1, 2, 3, 4, 5] : Bytes).length / 3 ∧ 7 < 8 := by
  decide

theorem test_witness_InversePassesUndoForwardPasses :
    ([] : Bytes).length % 3 = 0 ∧ ([0, 1, 2, 3, 4, 5, 6, 7, 8] : Bytes).length % 3 = 0 := by decide

theorem test_witness_MixIsAnInvolution :
    ([] : Bytes).length % 3 = 0 ∧ ([0, 1, 2, 3, 4, 5, 6, 7, 8] : Bytes).length % 3 = 0 := by decide

/-- LEN 17, 16 and 15 meet the three clauses; a second MIX starts from the state the first one left. -/
theorem test_witness_MixFollowsItsRule :
    (withLen 17).CapOk ∧ SameBytes (after .mix (withLen 15)) (after .mix (withLen 15)) ∧
      (withLen 17).bufCap < (withLen 17).len.toNat ∧
      (withLen 16).len.toNat ≤ (withLen 16).bufCap ∧ (withLen 16).len.toNat % 3 ≠ 0 ∧
      (withLen 15).len.toNat ≤ (withLen 15).bufCap ∧ (withLen 15).len.toNat % 3 = 0 :=
  ⟨capOk, fun _ => rfl, by decide +kernel⟩

theorem test_witness_EncodeFollowsItsRule :
    (withLen 17).CapOk ∧ (withLen 17).bufCap < (withLen 17).len.toNat ∧
      (withLen 0).len.toNat = 0 ∧
      (1 ≤ (withLen 14).len.toNat ∧ (withLen 14).len.toNat ≤ (withLen 14).bufCap ∧
        (withLen 14).bufCap < paddedSize (withLen 14).len.toNat) ∧
      1 ≤ (withLen 13).len.toNat ∧ paddedSize (withLen 13).len.toNat ≤ (withLen 13).bufCap :=
  ⟨capOk, by decide +kernel⟩

/-- For DECODE and DECODE_VIEW: LEN 17, 16 and 0, a blob whose frame fails, a blob whose frame is valid,
and the blob of the empty frame. -/
def decodeClauses : Prop :=
    (withLen 17).CapOk ∧ (withLen 17).bufCap < (withLen 17).len.toNat ∧
      ((withLen 16).len.toNat ≤ (withLen 16).bufCap ∧ (withLen 16).len.toNat % 3 ≠ 0) ∧
      (withLen 0).len.toNat = 0 ∧
      (parseFrame (mix ((withBytes [0x3D, 0xA1, 0x15]).memRead 0
        (withBytes [0x3D, 0xA1, 0x15]).len.toNat)) matches .error _) ∧
      (parseFrame (mix ((withBytes [0x3D, 0xA1, 0x14]).memRead 0
        (withBytes [0x3D, 0xA1, 0x14]).len.toNat)) matches .ok (1, 1)) ∧
      (parseFrame (mix ((withBytes (mix [0x00, 0x01, 0x02])).memRead 0
        (withBytes (mix [0x00, 0x01, 0x02])).len.toNat)) matches .ok (0, 0)) ∧
      (withBytes [0x3D, 0xA1, 0x14]).len.toNat = 3

theorem test_witness_DecodeFollowsItsRule : decodeClauses := ⟨capOk, by decide +kernel⟩

theorem test_witness_DecodeViewFollowsItsRule : decodeClauses := ⟨capOk, by decide +kernel⟩

/-- The blob 3D A1 15, decoded with an error, and the state DECODE left. -/
theorem test_witness_MixRestoresBlobAfterFailedDecode :
    (withBytes [0x3D, 0xA1, 0x15]).CapOk ∧
      exec .decode (withBytes [0x3D, 0xA1, 0x15]) = .next (after .decode (withBytes [0x3D, 0xA1, 0x15])) ∧
      exec .decodeView (withBytes [0x3D, 0xA1, 0x15]) =
        .next (after .decodeView (withBytes [0x3D, 0xA1, 0x15])) ∧
      SameBytes (after .decode (withBytes [0x3D, 0xA1, 0x15]))
        (after .decode (withBytes [0x3D, 0xA1, 0x15])) ∧
      (after .decode (withBytes [0x3D, 0xA1, 0x15])).len = (withBytes [0x3D, 0xA1, 0x15]).len ∧
      (after .decode (withBytes [0x3D, 0xA1, 0x15])).bufCap = (withBytes [0x3D, 0xA1, 0x15]).bufCap ∧
      (parseFrame (mix ((withBytes [0x3D, 0xA1, 0x15]).memRead 0
        (withBytes [0x3D, 0xA1, 0x15]).len.toNat)) matches .error _) ∧
      (withBytes [0x3D, 0xA1, 0x15]).len.toNat = 3 :=
  ⟨capOk, exec_after _ _, exec_after _ _, fun _ => rfl, by decide +kernel⟩

/-- LEN 0 and LEN 13 meet the premise; the state between the commands is ENCODE's with LEN set. -/
theorem test_witness_EncodeDecodeRoundTrip :
    (withLen 0).CapOk ∧ (withLen 0).len.toNat = 0 ∧
      paddedSize (withLen 13).len.toNat ≤ (withLen 13).bufCap ∧
      SameBytes (after .encode (withLen 13))
        ((after .encode (withLen 13)).setLen (after .encode (withLen 13)).rlen) ∧
      1 ≤ (withLen 13).len.toNat :=
  ⟨capOk, by decide +kernel, by decide +kernel, fun _ => rfl, by decide +kernel⟩

end Sys2Proof.Tests
end

/-! # The block's state: settling the family of 10_state.md

Four layers: how long the byte strings are that a command stores; what a command's execution step can
do; what a host access and a step can do; and the obligations, each a use of these. -/

namespace Sys2Proof.Machine

/-! ## Lengths of the byte strings a command stores -/

theorem vlqEncodeLoop_length_le (groups v : Nat) : (vlqEncodeLoop groups v).length ≤ groups := by
  induction groups generalizing v with
  | zero => simp [vlqEncodeLoop]
  | succ groups ih =>
    rw [vlqEncodeLoop]
    split
    · simpa using ih (v / 128)
    · simp

/-- A VLQ has at most 10 bytes (40_vlq.md R101). -/
theorem vlqEncode_length_le (v : Nat) : (vlqEncode v).length ≤ 10 := vlqEncodeLoop_length_le 10 v

@[simp] theorem checksumField_length (p : Bytes) (k : Nat) : (checksumField p k).length = k := by
  simp [checksumField]

theorem buildFrame_length_le (p : Bytes) : (buildFrame p).length ≤ paddedSize p.length := by
  simp only [buildFrame, paddedSize, List.length_append, List.length_take, checksumField_length]
  omega

theorem slice_length_le (bs : Bytes) (a b : Nat) : (slice bs a b).length ≤ b - a := by
  simp only [slice, List.length_take]
  omega

theorem payloadOf_length_le (f : Bytes) (l n : Nat) : (payloadOf f l n).length ≤ n := by
  have h := slice_length_le f l (l + n)
  unfold payloadOf
  omega

/-- A fold whose every turn keeps the length keeps it. -/
theorem foldl_length_eq {f : Bytes → Nat → Bytes} (hf : ∀ buf i, (f buf i).length = buf.length)
    (indices : List Nat) (buf : Bytes) : (indices.foldl f buf).length = buf.length := by
  induction indices generalizing buf with
  | nil => rfl
  | cons i indices ih => rw [List.foldl_cons, ih, hf]

@[simp] theorem loop_length (indices : List Nat) (f : Bytes → Nat → Byte) (buf : Bytes) :
    (loop indices f buf).length = buf.length :=
  foldl_length_eq (fun _ _ => List.length_set) indices buf

@[simp] theorem setBlock_length (buf : Bytes) (b : Nat) (x y z : Byte) :
    (setBlock buf b x y z).length = buf.length := by simp [setBlock]

@[simp] theorem setBlockValue_length (buf : Bytes) (b : Nat) (v : BitVec 24) :
    (setBlockValue buf b v).length = buf.length := setBlock_length ..

@[simp] theorem passP1_length (buf : Bytes) : (passP1 buf).length = buf.length := loop_length ..
@[simp] theorem passP2_length (buf : Bytes) : (passP2 buf).length = buf.length := by
  unfold passP2; split <;> simp
@[simp] theorem passP3_length (buf : Bytes) : (passP3 buf).length = buf.length := loop_length ..
@[simp] theorem passP4_length (buf : Bytes) : (passP4 buf).length = buf.length :=
  foldl_length_eq (fun _ _ => setBlockValue_length ..) _ _
@[simp] theorem passP5_length (buf : Bytes) : (passP5 buf).length = buf.length := by
  unfold passP5; split <;> simp
@[simp] theorem passP6_length (buf : Bytes) : (passP6 buf).length = buf.length := loop_length ..
@[simp] theorem flipPass_length (buf : Bytes) : (flipPass buf).length = buf.length :=
  foldl_length_eq (fun _ _ => setBlock_length ..) _ _

/-- Forward keeps the length (42_diffuser.md R167). -/
@[simp] theorem forward_length (buf : Bytes) : (forward buf).length = buf.length := by simp [forward]

@[simp] theorem passI6_length (buf : Bytes) : (passI6 buf).length = buf.length := loop_length ..
@[simp] theorem passI5_length (buf : Bytes) : (passI5 buf).length = buf.length := by
  unfold passI5; split <;> simp
@[simp] theorem passI4_length (buf : Bytes) : (passI4 buf).length = buf.length :=
  foldl_length_eq (fun _ _ => setBlockValue_length ..) _ _
@[simp] theorem passI3_length (buf : Bytes) : (passI3 buf).length = buf.length := loop_length ..
@[simp] theorem passI2_length (buf : Bytes) : (passI2 buf).length = buf.length := by
  unfold passI2; split <;> simp
@[simp] theorem passI1_length (buf : Bytes) : (passI1 buf).length = buf.length := loop_length ..

@[simp] theorem backward_length (buf : Bytes) : (backward buf).length = buf.length := by
  simp [backward]

@[simp] theorem mix_length (buf : Bytes) : (mix buf).length = buf.length := by simp [mix]

/-! ## What a parsed frame says of its length -/

theorem parseHeader_eq_ok_iff {f : Bytes} {l n : Nat} :
    parseHeader f = .ok (l, n) ↔
      f.length % 3 = 0 ∧ (∃ k, vlqDecode f = .ok n k) ∧ paddedSize n = f.length ∧
        l = prefixSize n := by
  unfold parseHeader
  by_cases h3 : f.length % 3 = 0
  · rw [if_neg (not_not.mpr h3)]
    cases vlqDecode f with
    | bad sub off => simp
    | ok m k =>
      by_cases hp : paddedSize m = f.length
      · simp only [hp, ne_eq, not_true_eq_false, if_false, Except.ok.injEq, Prod.mk.injEq,
          VlqResult.ok.injEq]
        constructor
        · rintro ⟨rfl, rfl⟩
          exact ⟨h3, ⟨k, rfl, rfl⟩, hp, rfl⟩
        · rintro ⟨-, ⟨_, rfl, -⟩, -, rfl⟩
          exact ⟨rfl, rfl⟩
      · simp only [ne_eq, hp, not_false_eq_true, if_true, VlqResult.ok.injEq, reduceCtorEq,
          false_iff]
        rintro ⟨-, ⟨_, rfl, -⟩, hp', -⟩
        exact hp hp'
  · rw [if_pos h3]
    simp [h3]

theorem parseFrame_eq_ok_iff {f : Bytes} {l n : Nat} :
    parseFrame f = .ok (l, n) ↔ parseHeader f = .ok (l, n) ∧ firstMismatch f l n = none := by
  unfold parseFrame
  cases parseHeader f with
  | error e => simp
  | ok ln =>
    obtain ⟨l', n'⟩ := ln
    simp only [Except.ok.injEq, Prod.mk.injEq]
    constructor
    · intro h
      cases hm : firstMismatch f l' n' with
      | some i => simp [hm] at h
      | none =>
        obtain ⟨rfl, rfl⟩ : l' = l ∧ n' = n := by simpa [hm] using h
        exact ⟨⟨rfl, rfl⟩, hm⟩
    · rintro ⟨⟨rfl, rfl⟩, hm⟩
      simp [hm]

/-- The parts of a frame whose header is accepted lie inside it. -/
theorem parseHeader_ok_length {f : Bytes} {l n : Nat} (h : parseHeader f = .ok (l, n)) :
    l + n + checksumSize n = f.length := by
  obtain ⟨-, -, hp, rfl⟩ := parseHeader_eq_ok_iff.mp h
  exact hp

/-! ## Bounded writes to BUF -/

/-- `t` differs from `s` in BUF by writes below offset `k` only: the canonical form, the bounds and
every byte at or above `k` survive. -/
structure WritesBelow (k : Nat) (s t : State) : Prop where
  wf : Memory.wf s.buf → Memory.wf t.buf
  within : ∀ cap, k ≤ cap → Memory.within cap s.buf → Memory.within cap t.buf
  same : SameBytesFrom k s t

namespace WritesBelow
variable {k k' : Nat} {s t u : State}

theorem of_buf_eq (hb : t.buf = s.buf) (hd : t.bufDraw = s.bufDraw) : WritesBelow k s t where
  wf h := hb ▸ h
  within _ _ h := hb ▸ h
  same i _ := State.byteAt_congr hb hd i

theorem memWrite (s : State) {a : Nat} {bs : Bytes} (h : a + bs.length ≤ k) :
    WritesBelow k s (s.memWrite a bs) where
  wf hw := Memory.writeAll_wf hw a bs
  within _ hk hw := Memory.writeAll_within hw bs (Nat.le_trans h hk)
  same _ hi := State.byteAt_memWrite_outside s (.inr (Nat.le_trans h hi))

theorem trans (h₁ : WritesBelow k s t) (h₂ : WritesBelow k t u) : WritesBelow k s u where
  wf h := h₂.wf (h₁.wf h)
  within cap hk h := h₂.within cap hk (h₁.within cap hk h)
  same i hi := (h₂.same i hi).trans (h₁.same i hi)

theorem mono (h : WritesBelow k s t) (hk : k ≤ k') : WritesBelow k' s t where
  wf := h.wf
  within cap hc := h.within cap (Nat.le_trans hk hc)
  same i hi := h.same i (Nat.le_trans hk hi)

/-- Updates of registers after the writes do not count. -/
theorem congr_right (h : WritesBelow k s t) (hb : u.buf = t.buf) (hd : u.bufDraw = t.bufDraw) :
    WritesBelow k s u := h.trans (of_buf_eq hb hd)

end WritesBelow

/-! ## What the execution step of a command can do -/

/-- The length of the input a command reads: LEN, or 0 for a command that reads no BUF byte
(30_encoding.md R73). -/
def inputLength (i : Instr) (s : State) : Nat := if readsInput i then s.len.toNat else 0

/-- Where a command can write: below LEN_in, for a command that reads its input, or below RLEN_out, and
inside BUF (10_state.md R44). -/
def BoundedWrites (i : Instr) (s t : State) : Prop :=
  ∃ k ≤ s.bufCap, (k ≤ inputLength i s ∨ k ≤ t.rlen.toNat) ∧ WritesBelow k s t

/-- What a command that succeeds may have changed in `u` before STATUS is updated: BUF bytes, and the
registers its rule names (10_state.md R34 to R37, R44). -/
structure SuccessBody (i : Instr) (s u : State) : Prop where
  writes : s.CapOk → BoundedWrites i s u
  control : KeepsControl s u := by simp [KeepsControl]
  info : KeepsInfo s u := by simp [KeepsInfo]
  value : i ≠ .vlqDec → u.value = s.value := by simp
  poff : i ∉ [Instr.padsize, .build, .buildz, .parse, .reseal, .decodeView] → u.poff = s.poff := by
    simp
  plen : i ∉ [Instr.padsize, .build, .buildz, .parse, .reseal, .decode, .decodeView] →
    u.plen = s.plen := by simp

/-- How a command can end: with an error and BUF as it was, with a frame error of DECODE or
DECODE_VIEW and the candidate in BUF (43_orchestration.md R191, R192), or with success. -/
inductive CommandResult (i : Instr) (s : State) : State → Prop where
  | error (e : CmdError) : CommandResult i s (s.raised e)
  | frameError (f : Bytes) (e : CmdError) (hi : i = .decode ∨ i = .decodeView)
      (hf : f.length = s.len.toNat) (hcap : s.len.toNat ≤ s.bufCap) :
      CommandResult i s ((s.memWrite 0 f).raised e)
  | success (u : State) (h : SuccessBody i s u) : CommandResult i s u.completed

/-- A size that fits BUF is what its word counts. -/
theorem word_toNat_of_le_cap {s : State} (hcap : s.CapOk) {n : Nat} (h : n ≤ s.bufCap) :
    (word n).toNat = n := by
  have := hcap.2
  simp only [word, BitVec.toNat_ofNat]
  omega

namespace BoundedWrites
variable {i : Instr} {s t u : State}

theorem of_buf_eq (hb : t.buf = s.buf) (hd : t.bufDraw = s.bufDraw) : BoundedWrites i s t :=
  ⟨0, Nat.zero_le _, .inl (Nat.zero_le _), .of_buf_eq hb hd⟩

theorem of_input (hi : readsInput i = true) (hle : s.len.toNat ≤ s.bufCap)
    (hw : WritesBelow s.len.toNat s t) : BoundedWrites i s t :=
  ⟨s.len.toNat, hle, .inl (by simp [inputLength, hi]), hw⟩

theorem of_rlen (hcap : s.CapOk) {n : Nat} (hn : n ≤ s.bufCap) (hr : t.rlen = word n)
    (hw : WritesBelow n s t) : BoundedWrites i s t :=
  ⟨n, hn, .inr (by rw [hr, word_toNat_of_le_cap hcap hn]), hw⟩

end BoundedWrites

section
variable (s : State)

theorem execVlqEnc_result : CommandResult .vlqEnc s
    ((s.memWrite 0 (vlqEncode s.value.toNat)).setRlen
      (word (vlqEncode s.value.toNat).length)).completed := by
  refine .success _ { writes := fun hcap => ?_ }
  have hfit : (vlqEncode s.value.toNat).length ≤ s.bufCap :=
    (vlqEncode_length_le _).trans (le_trans (by decide) hcap.1)
  exact .of_rlen hcap hfit rfl ((WritesBelow.memWrite s (by omega)).congr_right rfl rfl)

/-- Storing a frame that fits: its bytes are no more than RLEN says. -/
theorem storedFrame_result (i : Instr) (hi : i = .build ∨ i = .buildz) (n : Nat) (p : Bytes)
    (hp : p.length = n) (hfit : paddedSize n ≤ s.bufCap) : CommandResult i s
    ((s.memWrite 0 (buildFrame p)).setFrame (paddedSize n) (prefixSize n) n).completed := by
  have hlen := buildFrame_length_le p
  rw [hp] at hlen
  have hw : s.CapOk → BoundedWrites i s
      ((s.memWrite 0 (buildFrame p)).setFrame (paddedSize n) (prefixSize n) n) := fun hcap =>
    .of_rlen hcap hfit rfl ((WritesBelow.memWrite s (by omega)).congr_right rfl rfl)
  rcases hi with rfl | rfl
  · exact .success _ { writes := hw }
  · exact .success _ { writes := hw }

theorem execVlqDec_result {t : State} (ht : exec .vlqDec s = .next t) :
    CommandResult .vlqDec s t := by
  obtain ⟨t', ht', h⟩ := execVlqDec_cases s
  obtain rfl : t' = t := Host.Outcome.next.inj (ht'.symm.trans ht)
  rcases h with ⟨-, rfl⟩ | ⟨sub, off, -, -, rfl⟩ | ⟨v, k, -, -, rfl⟩
  · exact .error _
  · exact .error _
  · exact .success _ { writes := fun _ => .of_buf_eq rfl rfl }

theorem execPadsize_result {t : State} (ht : exec .padsize s = .next t) :
    CommandResult .padsize s t := by
  obtain ⟨t', ht', h⟩ := execPadsize_cases s
  obtain rfl : t' = t := Host.Outcome.next.inj (ht'.symm.trans ht)
  rcases h with ⟨-, rfl⟩ | ⟨-, rfl⟩
  · exact .error _
  · exact .success _ { writes := fun _ => .of_buf_eq rfl rfl }

theorem execBuild_result {t : State} (ht : exec .build s = .next t) :
    CommandResult .build s t := by
  obtain ⟨t', ht', h⟩ := execBuild_cases s
  obtain rfl : t' = t := Host.Outcome.next.inj (ht'.symm.trans ht)
  rcases h with ⟨-, rfl⟩ | ⟨-, -, rfl⟩ | ⟨-, hfit, rfl⟩
  · exact .error _
  · exact .error _
  · exact storedFrame_result s .build (.inl rfl) _ _ (by simp) hfit

theorem execBuildz_result {t : State} (ht : exec .buildz s = .next t) :
    CommandResult .buildz s t := by
  obtain ⟨t', ht', h⟩ := execBuildz_cases s
  obtain rfl : t' = t := Host.Outcome.next.inj (ht'.symm.trans ht)
  rcases h with ⟨-, rfl⟩ | ⟨hfit, rfl⟩
  · exact .error _
  · exact storedFrame_result s .buildz (.inr rfl) _ _ (by simp) hfit

theorem execParse_result {t : State} (ht : exec .parse s = .next t) :
    CommandResult .parse s t := by
  obtain ⟨t', ht', h⟩ := execParse_cases s
  obtain rfl : t' = t := Host.Outcome.next.inj (ht'.symm.trans ht)
  rcases h with ⟨-, rfl⟩ | ⟨e, -, -, rfl⟩ | ⟨l, n, -, -, rfl⟩
  · exact .error _
  · exact .error _
  · exact .success _ { writes := fun _ => .of_buf_eq rfl rfl }

/-- Only checksum bytes are written, and they lie inside the input (41_framer.md R144). -/
theorem execReseal_result {t : State} (ht : exec .reseal s = .next t) :
    CommandResult .reseal s t := by
  obtain ⟨t', ht', h⟩ := execReseal_cases s
  obtain rfl : t' = t := Host.Outcome.next.inj (ht'.symm.trans ht)
  rcases h with ⟨-, rfl⟩ | ⟨e, -, -, rfl⟩ | ⟨l, n, hle, hp, rfl⟩
  · exact .error _
  · exact .error _
  · have hin := parseHeader_ok_length hp
    rw [State.memRead_length] at hin
    have hs := slice_length_le (reseal (s.memRead 0 s.len.toNat) l n) (l + n)
      (l + n + checksumSize n)
    refine .success _ { writes := fun _ => .of_input rfl hle ?_ }
    exact (WritesBelow.memWrite s (by omega)).congr_right rfl rfl

theorem execMix_result {t : State} (ht : exec .mix s = .next t) : CommandResult .mix s t := by
  obtain ⟨t', ht', h⟩ := execMix_cases s
  obtain rfl : t' = t := Host.Outcome.next.inj (ht'.symm.trans ht)
  rcases h with ⟨-, rfl⟩ | ⟨-, -, rfl⟩ | ⟨hle, -, rfl⟩
  · exact .error _
  · exact .error _
  · refine .success _ { writes := fun _ => .of_input rfl hle ?_ }
    exact (WritesBelow.memWrite s (by simp)).congr_right rfl rfl

theorem execEncode_result {t : State} (ht : exec .encode s = .next t) :
    CommandResult .encode s t := by
  obtain ⟨t', ht', h⟩ := execEncode_cases s
  obtain rfl : t' = t := Host.Outcome.next.inj (ht'.symm.trans ht)
  rcases h with ⟨-, rfl⟩ | ⟨-, rfl⟩ | ⟨-, -, -, rfl⟩ | ⟨-, -, hfit, rfl⟩
  · exact .error _
  · exact .success _ { writes := fun _ => .of_buf_eq rfl rfl }
  · exact .error _
  · have hlen := buildFrame_length_le (s.memRead 0 s.len.toNat)
    rw [State.memRead_length] at hlen
    refine .success _ { writes := fun hcap => .of_rlen hcap hfit rfl ?_ }
    exact (WritesBelow.memWrite s (by simpa using hlen)).congr_right rfl rfl

/-- DECODE and DECODE_VIEW: what is left to say is the effect on an empty blob and on a valid frame. -/
theorem unmix_result (i : Instr) (hi : i = .decode ∨ i = .decodeView) (e : State)
    (m : State → Bytes → Nat → Nat → State) (he : SuccessBody i s e)
    (hm : ∀ f l n, f.length = s.len.toNat → s.len.toNat ≤ s.bufCap → parseHeader f = .ok (l, n) →
      SuccessBody i s (m (s.memWrite 0 f) f l n)) : CommandResult i s (s.unmix e m) := by
  rcases s.unmix_cases e m with ⟨-, h⟩ | ⟨-, -, h⟩ | ⟨-, h⟩ | ⟨hle, -, -, f, hf, h⟩
  · exact h ▸ .error _
  · exact h ▸ .error _
  · exact h ▸ .success _ he
  · have hlen : f.length = s.len.toNat := by simp [hf]
    rcases h with ⟨err, -, h⟩ | ⟨l, n, hp, h⟩
    · exact h ▸ .frameError f err hi hlen hle
    · exact h ▸ .success _ (hm f l n hlen hle (parseFrame_eq_ok_iff.mp hp).1)

/-- The payload that DECODE moves is no longer than the frame it comes from. -/
theorem execDecode_result {t : State} (ht : exec .decode s = .next t) :
    CommandResult .decode s t := by
  obtain rfl := Host.Outcome.next.inj ((execDecode_spec s).symm.trans ht)
  refine unmix_result s .decode (.inl rfl) _ _ { writes := fun _ => .of_buf_eq rfl rfl }
    fun f l n hf hle hp => ?_
  have hin := parseHeader_ok_length hp
  have hpay := payloadOf_length_le f l n
  have hw : WritesBelow s.len.toNat s ((s.memWrite 0 f).memWrite 0 (payloadOf f l n)) :=
    (WritesBelow.memWrite s (by omega)).trans (WritesBelow.memWrite _ (by omega))
  exact { writes := fun _ => .of_input rfl hle (hw.congr_right rfl rfl) }

theorem execDecodeView_result {t : State} (ht : exec .decodeView s = .next t) :
    CommandResult .decodeView s t := by
  obtain rfl := Host.Outcome.next.inj ((execDecodeView_spec s).symm.trans ht)
  refine unmix_result s .decodeView (.inr rfl) _ _ { writes := fun _ => .of_buf_eq rfl rfl }
    fun f l n hf hle _ => ?_
  refine { writes := fun _ => .of_input rfl hle ?_ }
  exact (WritesBelow.memWrite s (by omega)).congr_right rfl rfl

end

/-- What the execution step of any command can do. -/
theorem exec_result {i : Instr} {s t : State} (ht : exec i s = .next t) : CommandResult i s t := by
  cases i with
  | vlqEnc =>
    obtain rfl := Host.Outcome.next.inj ((execVlqEnc_spec s).symm.trans ht)
    exact execVlqEnc_result s
  | vlqDec => exact execVlqDec_result s ht
  | padsize => exact execPadsize_result s ht
  | build => exact execBuild_result s ht
  | buildz => exact execBuildz_result s ht
  | parse => exact execParse_result s ht
  | reseal => exact execReseal_result s ht
  | mix => exact execMix_result s ht
  | encode => exact execEncode_result s ht
  | decode => exact execDecode_result s ht
  | decodeView => exact execDecodeView_result s ht

/-! ## What every execution step has in common -/

theorem errorCode_toNat (e : CmdError) : 1 ≤ (errorCode e).toNat ∧ (errorCode e).toNat ≤ 6 := by
  cases e <;> simp [errorCode]

theorem errorCode_ne_zero (e : CmdError) : errorCode e ≠ 0 := by
  cases e <;> simp [errorCode]

@[simp] theorem State.raised_err_true (s : State) (e : CmdError) : (s.raised e).err = true :=
  bne_iff_ne.mpr (errorCode_ne_zero e)

/-- What an execution step does besides its writes to BUF, illegal words too: it completes with a code
that is not reserved, and writes the error information or the results, never both
(10_state.md R43; 60_exceptions.md R200, R204). -/
structure Completes (s t : State) : Prop where
  code : ∃ c ≤ 6, CompletedWith c s t
  info : t.err = false → KeepsInfo s t
  results : t.err = true → KeepsResults s t

theorem Completes.raised {s u : State} (hc : KeepsControl s u) (hr : KeepsResults s u)
    (e : CmdError) : Completes s (u.raised e) where
  code := by
    obtain ⟨hpos, hle⟩ := errorCode_toNat e
    exact ⟨_, hle, rfl, rfl, rfl, by rw [State.raised_err_true]; simp; omega, hc⟩
  info h := by rw [State.raised_err_true] at h; cases h
  results _ := hr

theorem Completes.completed {s u : State} (hc : KeepsControl s u) (hi : KeepsInfo s u) :
    Completes s u.completed where
  code := ⟨0, by omega, rfl, rfl, rfl, rfl, hc⟩
  info _ := hi
  results h := by rw [State.completed_err] at h; cases h

theorem CommandResult.completes {i : Instr} {s t : State} (h : CommandResult i s t) :
    Completes s t := by
  cases h with
  | error e => exact .raised (by simp [KeepsControl]) (by simp [KeepsResults]) e
  | frameError f e => exact .raised (by simp [KeepsControl]) (by simp [KeepsResults]) e
  | success u h => exact .completed h.control h.info

theorem CommandResult.writes {i : Instr} {s t : State} (h : CommandResult i s t) (hcap : s.CapOk) :
    BoundedWrites i s t := by
  cases h with
  | error e => exact .of_buf_eq rfl rfl
  | frameError f e hi hf hle =>
    have hr : readsInput i = true := by rcases hi with rfl | rfl <;> rfl
    exact .of_input hr hle ((WritesBelow.memWrite s (by omega)).congr_right rfl rfl)
  | success u h =>
    obtain ⟨k, hk, hbound, hw⟩ := h.writes hcap
    exact ⟨k, hk, hbound, hw.congr_right rfl rfl⟩

end Sys2Proof.Machine

/-! # The host's side and the steps -/

namespace Sys2Proof.Machine

/-! ## Which accesses the bus makes of which transactions -/

theorem regAt_eq_some_iff {offset : Nat} {r : Reg} : regAt offset = some r ↔ offset = offsetOf r := by
  constructor
  · intro h
    unfold regAt at h
    split at h <;> cases h <;> rfl
  · rintro rfl
    cases r <;> rfl

@[simp] theorem regAt_offsetOf (r : Reg) : regAt (offsetOf r) = some r := regAt_eq_some_iff.mpr rfl

theorem offsetOf_legal (r : Reg) : offsetOf r % 8 = 0 ∧ offsetOf r ≤ 0xFF := by
  cases r <;> decide

theorem busOp_regWrite {cap offset : Nat} (h8 : offset % 8 = 0) (hff : offset ≤ 0xFF) (v : Word) :
    busOp cap ⟨.reg, offset, 64, .write v⟩ = some (.writeReg (regAt offset) v) := by
  simp [busOp, h8, hff]

theorem busOp_regWriteAccess (cap : Nat) (r : Reg) (v : Word) :
    busOp cap (regWriteAccess r v) = some (.writeReg (some r) v) := by
  obtain ⟨h8, hff⟩ := offsetOf_legal r
  rw [regWriteAccess, busOp_regWrite h8 hff, regAt_offsetOf]

theorem busOp_bufWrite {cap i : Nat} (h : i < cap) (v : Word) :
    busOp cap ⟨.buf, i, 8, .write v⟩ = some (.writeBuf i (v.setWidth 8)) := by
  simp [busOp, h]

/-- A legal access in the register space, by the access it is (20_memory.md R53). -/
theorem busOp_reg_cases {cap : Nat} {a : Access} {op : BusOp} (ha : a.space = .reg)
    (h : busOp cap a = some op) :
    a.width = 64 ∧ a.offset % 8 = 0 ∧ a.offset ≤ 0xFF ∧
      ((a.dir = .read ∧ op = .readReg (regAt a.offset)) ∨
        ∃ v, a.dir = .write v ∧ op = .writeReg (regAt a.offset) v) := by
  obtain ⟨space, offset, width, dir⟩ := a
  obtain rfl : space = .reg := ha
  unfold busOp at h
  by_cases hbad : width ≠ 64 ∨ offset % 8 ≠ 0 ∨ 0xFF < offset
  · simp only [hbad, if_true, reduceCtorEq] at h
  · simp only [hbad, if_false] at h
    refine ⟨by simp only; omega, by simp only; omega, by simp only; omega, ?_⟩
    cases dir with
    | read => exact .inl ⟨rfl, (Option.some.inj h).symm⟩
    | write v => exact .inr ⟨v, rfl, (Option.some.inj h).symm⟩

/-- A legal access in the buffer space, by the access it is (20_memory.md R54). -/
theorem busOp_buf_cases {cap : Nat} {a : Access} {op : BusOp} (ha : a.space = .buf)
    (h : busOp cap a = some op) :
    a.width = 8 ∧ a.offset < cap ∧
      ((a.dir = .read ∧ op = .readBuf a.offset) ∨
        ∃ v, a.dir = .write v ∧ op = .writeBuf a.offset (v.setWidth 8)) := by
  obtain ⟨space, offset, width, dir⟩ := a
  obtain rfl : space = .buf := ha
  unfold busOp at h
  by_cases hbad : width ≠ 8 ∨ cap ≤ offset
  · simp only [hbad, if_true, reduceCtorEq] at h
  · simp only [hbad, if_false] at h
    refine ⟨by simp only; omega, by simp only; omega, ?_⟩
    cases dir with
    | read => exact .inl ⟨rfl, (Option.some.inj h).symm⟩
    | write v => exact .inr ⟨v, rfl, (Option.some.inj h).symm⟩

/-- The only transaction that writes a register is that register's write. -/
theorem eq_regWriteAccess_of_busOp {cap : Nat} {a : Access} {r : Reg} {v : Word}
    (h : busOp cap a = some (.writeReg (some r) v)) : a = regWriteAccess r v := by
  cases ha : a.space with
  | reg =>
    obtain ⟨hw, -, -, ⟨-, hop⟩ | ⟨v', hd, hop⟩⟩ := busOp_reg_cases ha h
    · cases hop
    · obtain ⟨hr, rfl⟩ := BusOp.writeReg.inj hop
      have ho := regAt_eq_some_iff.mp hr.symm
      obtain ⟨space, offset, width, dir⟩ := a
      cases ha; cases hw; cases hd; cases ho
      rfl
  | buf =>
    obtain ⟨-, -, ⟨-, hop⟩ | ⟨v', -, hop⟩⟩ := busOp_buf_cases ha h
    · cases hop
    · cases hop

/-- The only transactions that write a BUF byte are 8-bit writes inside BUF. -/
theorem eq_bufWrite_of_busOp {cap : Nat} {a : Access} {i : Nat} {b : Byte}
    (h : busOp cap a = some (.writeBuf i b)) : i < cap ∧ ∃ v, a = ⟨.buf, i, 8, .write v⟩ := by
  cases ha : a.space with
  | reg =>
    obtain ⟨-, -, -, ⟨-, hop⟩ | ⟨v', -, hop⟩⟩ := busOp_reg_cases ha h
    · cases hop
    · cases hop
  | buf =>
    obtain ⟨hw, hlt, ⟨-, hop⟩ | ⟨v', hd, hop⟩⟩ := busOp_buf_cases ha h
    · cases hop
    · obtain ⟨rfl, -⟩ := BusOp.writeBuf.inj hop
      obtain ⟨space, offset, width, dir⟩ := a
      cases ha; cases hw; cases hd
      exact ⟨hlt, v', rfl⟩

/-- The bus takes exactly the accesses that are no access error (20_memory.md R53 to R55). -/
theorem busOp_isSome (cap : Nat) (a : Access) :
    (busOp cap a).isSome = WellFormed.access cap a := by
  obtain ⟨space, offset, width, dir⟩ := a
  cases space with
  | reg =>
    by_cases hbad : width ≠ 64 ∨ offset % 8 ≠ 0 ∨ 0xFF < offset
    · have hill : WellFormed.regAccess offset width = false := by
        simp [WellFormed.regAccess]; omega
      simp only [busOp, WellFormed.access, hbad, hill, if_true, Option.isSome_none]
    · have hleg : WellFormed.regAccess offset width = true := by
        simp [WellFormed.regAccess]; omega
      cases dir <;> simp only [busOp, WellFormed.access, hbad, hleg, if_false, Option.isSome_some]
  | buf =>
    by_cases hbad : width ≠ 8 ∨ cap ≤ offset
    · have hill : WellFormed.bufAccess cap offset width = false := by
        simp [WellFormed.bufAccess]; omega
      simp only [busOp, WellFormed.access, hbad, hill, if_true, Option.isSome_none]
    · have hleg : WellFormed.bufAccess cap offset width = true := by
        simp [WellFormed.bufAccess]; omega
      cases dir <;> simp only [busOp, WellFormed.access, hbad, hleg, if_false, Option.isSome_some]

/-! ## What a legal host access can do -/

/-- The effect of a legal host access on the state, one constructor per rule of 10_state.md R24 to R42
and 20_memory.md R56. -/
inductive HostEffect (s : State) : BusOp → State → Prop where
  | readReg (r : Option Reg) (v : HostRead) (d : Nat) :
      HostEffect s (.readReg r) { s with hostReads := v :: s.hostReads, readDraw := d }
  | readBuf (i : Nat) (v : HostRead) (d : Nat) :
      HostEffect s (.readBuf i) { s with hostReads := v :: s.hostReads, readDraw := d }
  | accept (w : Word) (hb : s.busy = false) : HostEffect s (.writeReg (some .cmd) w) (s.accept w)
  | dropReg (r : Reg) (v : Word) (hr : r ∈ [Reg.cmd, .len, .value]) (hb : s.busy = true) :
      HostEffect s (.writeReg (some r) v) s.dropWrite
  | dropBuf (i : Nat) (b : Byte) (hb : s.busy = true) : HostEffect s (.writeBuf i b) s.dropWrite
  | status (v : Word) : HostEffect s (.writeReg (some .status) v) (s.writeStatus v)
  | enable (v : Word) (hv : v.getLsbD 1 = false) :
      HostEffect s (.writeReg (some .ctrl) v) { s with ie := v.getLsbD 0 }
  | softReset (v : Word) (hv : v.getLsbD 1 = true) :
      HostEffect s (.writeReg (some .ctrl) v) s.softReset
  | setLen (v : Word) (hb : s.busy = false) : HostEffect s (.writeReg (some .len) v) (s.setLen v)
  | setValue (v : Word) (hb : s.busy = false) :
      HostEffect s (.writeReg (some .value) v) (s.setValue v)
  | writeBuf (i : Nat) (b : Byte) (hb : s.busy = false) :
      HostEffect s (.writeBuf i b) (s.memWrite i [b])
  | ignored (r : Option Reg) (v : Word) (hr : r ∉ [some Reg.cmd, some .status, some .ctrl, some .len,
      some .value]) : HostEffect s (.writeReg r v) s

theorem readReg_effect (s : State) (r : Option Reg) : HostEffect s (.readReg r) (s.readReg r) := by
  unfold State.readReg
  split
  · exact .readReg r _ (s.readDraw + 1)
  · exact .readReg r _ s.readDraw

theorem readBuf_effect (s : State) (i : Nat) : HostEffect s (.readBuf i) (s.readBuf i) := by
  unfold State.readBuf
  split
  · exact .readBuf i _ (s.readDraw + 1)
  · exact .readBuf i _ s.readDraw

theorem writeCtrl_effect (s : State) (v : Word) :
    HostEffect s (.writeReg (some .ctrl) v) (s.writeCtrl v) := by
  unfold State.writeCtrl
  split
  · next h => exact .softReset v h
  · next h => exact .enable v (by simpa using h)

/-- The writes that a pending command locks out: dropped while BUSY, done while IDLE (R56). -/
theorem lockedWrite_effect {s t : State} {r : Reg} {v : Word} (hr : r ∈ [Reg.cmd, .len, .value])
    (h : s.busy = false → HostEffect s (.writeReg (some r) v) t) :
    HostEffect s (.writeReg (some r) v) (if s.busy then s.dropWrite else t) := by
  cases hb : s.busy with
  | false => exact h hb
  | true => exact .dropReg r v hr hb

theorem writeReg_effect (s : State) (r : Option Reg) (v : Word) :
    HostEffect s (.writeReg r v) (s.writeReg r v) := by
  cases r with
  | none => exact .ignored none v (by decide)
  | some r =>
    cases r with
    | cmd => exact lockedWrite_effect (by decide) (.accept v)
    | len => exact lockedWrite_effect (by decide) (.setLen v)
    | value => exact lockedWrite_effect (by decide) (.setValue v)
    | status => exact .status v
    | ctrl => exact writeCtrl_effect s v
    | rlen | poff | plen | einfo0 | einfo1 | einfo2 => exact .ignored _ v (by decide)

theorem busStep_effect (s : State) (op : BusOp) : HostEffect s op (s.busStep op) := by
  cases op with
  | readReg r => exact readReg_effect s r
  | writeReg r v => exact writeReg_effect s r v
  | readBuf i => exact readBuf_effect s i
  | writeBuf i b =>
    show HostEffect s _ (if s.busy then s.dropWrite else s.memWrite i [b])
    cases hb : s.busy with
    | false => exact .writeBuf i b hb
    | true => exact .dropBuf i b hb

/-! ## What a step can do -/

/-- It is the block's turn: a block turn is listed first, or no turn is (10_state.md R43; log 3). -/
def BlockTurn (s : State) : Prop := s.turns = [] ∨ ∃ r, s.turns = .block :: r

/-- A step that answers a next state: a legal host access, power-on reset, the idle block's turn, the
pending command, or the completion of an illegal word. -/
inductive StepsTo (s : State) : State → Prop where
  | host (a : Access) (r : List Turn) (op : BusOp) (t : State) (hturns : s.turns = .host a :: r)
      (hop : busOp s.bufCap a = some op) (h : HostEffect s.nextTurn op t) : StepsTo s t
  | powerOn (r : List Turn) (hturns : s.turns = .powerOn :: r) : StepsTo s s.nextTurn.powerOnReset
  | idle (hturns : BlockTurn s) (hb : s.busy = false) : StepsTo s s.nextTurn
  | command (i : Instr) (t : State) (hturns : BlockTurn s) (hb : s.busy = true)
      (h : exec i s.nextTurn = .next t) : StepsTo s t
  | illegal (hturns : BlockTurn s) (hb : s.busy = true) :
      StepsTo s (s.nextTurn.raised (.illegalCommand s.pending))

/-- Everything a step can do. -/
theorem stepsTo_of_step {s t : State} (h : step s = .next t) : StepsTo s t := by
  rcases step_cases s with ⟨a, r, ht, hs⟩ | ⟨r, ht, hs⟩ | ⟨ht, hs⟩
  · rcases hostStep_cases a s.nextTurn with ⟨-, hh⟩ | ⟨op, hop, hh⟩
    · rw [hs, hh] at h
      cases h
    · obtain rfl := Host.Outcome.next.inj (h.symm.trans (hs.trans hh))
      exact .host a r op _ ht hop (busStep_effect _ op)
  · obtain rfl := Host.Outcome.next.inj (h.symm.trans hs)
    exact .powerOn r ht
  · rcases blockStep_cases s.nextTurn with ⟨hb, he⟩ | ⟨i, hb, -, he⟩ | ⟨hb, -, he⟩
    · obtain rfl := Host.Outcome.next.inj (h.symm.trans (hs.trans he))
      exact .idle ht hb
    · exact .command i t ht hb (he.symm.trans (hs.symm.trans h))
    · obtain rfl := Host.Outcome.next.inj (h.symm.trans (hs.trans he))
      exact .illegal ht hb

theorem nextTurn_eq {s : State} {x : Turn} {r : List Turn} (h : s.turns = x :: r) :
    s.nextTurn = { s with turns := r } := by
  simp [State.nextTurn, h]

theorem step_of_blockTurn {s : State} (h : BlockTurn s) : step s = blockStep s.nextTurn := by
  unfold step
  rcases h with h | ⟨r, h⟩ <;> simp [h]

theorem step_of_legalAccess {s : State} {a : Access} {r : List Turn} {op : BusOp}
    (h : s.turns = .host a :: r) (hop : busOp s.bufCap a = some op) :
    step s = .next ({ s with turns := r }.busStep op) := by
  have hs : step s = hostStep a s.nextTurn := by simp [step, h]
  rw [hs, nextTurn_eq h]
  unfold hostStep
  simp [hop]

/-- A register write as a step. -/
theorem step_of_regWrite {s : State} {reg : Reg} {v : Word} {r : List Turn}
    (h : s.turns = .host (regWriteAccess reg v) :: r) :
    step s = .next ({ s with turns := r }.writeReg (some reg) v) :=
  step_of_legalAccess h (busOp_regWriteAccess _ reg v)

theorem step_of_powerOn {s : State} {r : List Turn} (h : s.turns = .powerOn :: r) :
    step s = .next { s with turns := r }.powerOnReset := by
  rw [← nextTurn_eq h]
  simp [step, h]

end Sys2Proof.Machine

/-! # The invariant -/

namespace Sys2Proof.Machine

/-! ## The operations of the state keep it -/

/-- `s.Inv` speaks of no turn, recorded read, OVR, LEN, VALUE or IE: states that agree in the other
fields have the invariant together. -/
theorem State.Inv.congr {s t : State} (h : s.Inv) (hcap : t.bufCap = s.bufCap) (hbuf : t.buf = s.buf)
    (herr : t.err = s.err ∧ t.errcode = s.errcode) (hdone : t.done = true → s.done = true)
    (hcmd : t.busy = s.busy ∧ t.lastop = s.lastop ∧ t.pending = s.pending)
    (hres : t.rlen = s.rlen ∧ t.poff = s.poff ∧ t.plen = s.plen) (hinfo : KeepsInfo s t) :
    t.Inv := by
  obtain ⟨he, hc⟩ := herr
  obtain ⟨hb, hl, hp⟩ := hcmd
  obtain ⟨hr, hpo, hpl⟩ := hres
  obtain ⟨h0, h1, h2⟩ := hinfo
  constructor
  case cap => unfold State.CapOk; rw [hcap]; exact h.cap
  case bufWf => rw [hbuf]; exact h.bufWf
  case bufWithin => rw [hbuf, hcap]; exact h.bufWithin
  case errIff => rw [he, hc]; exact h.errIff
  case codeLegal => rw [hc]; exact h.codeLegal
  case busyNotDone =>
    rw [hb, hc]
    refine fun hbusy => (h.busyNotDone hbusy).imp_left fun hd => ?_
    exact Bool.eq_false_iff.mpr fun ht => by rw [hdone ht] at hd; cases hd
  case busyLastop => rw [hb, hl, hp]; exact h.busyLastop
  case noResults => rw [hb, hc, hr, hpo, hpl]; exact h.noResults
  case noInfo => rw [hc, h0, h1, h2]; exact h.noInfo

section
variable {s : State} (h : s.Inv)
include h

theorem State.Inv.nextTurn : s.nextTurn.Inv :=
  h.congr rfl rfl ⟨rfl, rfl⟩ id ⟨rfl, rfl, rfl⟩ ⟨rfl, rfl, rfl⟩ ⟨rfl, rfl, rfl⟩

theorem State.Inv.writeStatus (v : Word) : (s.writeStatus v).Inv :=
  h.congr rfl rfl ⟨rfl, rfl⟩ (fun hd => (Bool.and_eq_true_iff.mp hd).1) ⟨rfl, rfl, rfl⟩
    ⟨rfl, rfl, rfl⟩ ⟨rfl, rfl, rfl⟩

/-- Acceptance clears what the invariant wants cleared while BUSY (10_state.md R42). -/
theorem State.Inv.accept (w : Word) : (s.accept w).Inv where
  cap := h.cap
  bufWf := h.bufWf
  bufWithin := h.bufWithin
  errIff := by simp
  codeLegal := by simp
  busyNotDone := by simp
  busyLastop := by simp
  noResults := by simp
  noInfo := by simp

theorem State.Inv.clearRegisters : s.clearRegisters.Inv where
  cap := h.cap
  bufWf := h.bufWf
  bufWithin := h.bufWithin
  errIff := by simp
  codeLegal := by simp
  busyNotDone := by simp
  busyLastop := by simp
  noResults := by simp
  noInfo := by simp

theorem State.Inv.drawBuf : s.drawBuf.Inv :=
  { h with
    bufWf := by simp [Memory.wf]
    bufWithin := by simp [Memory.within] }

theorem State.Inv.powerOnReset : s.powerOnReset.Inv := h.clearRegisters.drawBuf

theorem State.Inv.softReset : s.softReset.Inv := by
  rcases s.softReset_cases with ⟨-, hs⟩ | ⟨-, hs⟩
  · exact hs ▸ h.clearRegisters.drawBuf
  · exact hs ▸ h.clearRegisters

theorem State.Inv.memWrite {a : Nat} {bs : Bytes} (hin : a + bs.length ≤ s.bufCap) :
    (s.memWrite a bs).Inv :=
  { h with
    bufWf := Memory.writeAll_wf h.bufWf a bs
    bufWithin := Memory.writeAll_within h.bufWithin bs hin }

/-- A legal host access keeps the invariant. -/
theorem State.Inv.hostEffect {a : Access} {op : BusOp} {t : State}
    (hop : busOp s.bufCap a = some op) (ht : HostEffect s op t) : t.Inv := by
  cases ht with
  | accept w => exact h.accept w
  | status v => exact h.writeStatus v
  | softReset v => exact h.softReset
  | writeBuf i b =>
    have hi := (eq_bufWrite_of_busOp hop).1
    exact h.memWrite (by simpa using hi)
  | ignored => exact h
  | readReg | readBuf | dropReg | dropBuf | enable | setLen | setValue =>
    exact h.congr rfl rfl ⟨rfl, rfl⟩ id ⟨rfl, rfl, rfl⟩ ⟨rfl, rfl, rfl⟩ ⟨rfl, rfl, rfl⟩

end

/-! ## An execution step keeps it -/

/-- The execution step of a pending command keeps the invariant: while BUSY the results and the error
information are 0, and the step writes only one of the two (10_state.md R38, R42). -/
theorem State.Inv.completes {s t : State} (h : s.Inv) (hb : s.busy = true) (hc : Completes s t)
    (hw : WritesBelow s.bufCap s t) : t.Inv := by
  obtain ⟨code, hcode, hbusy, -, herrcode, herr, hctl⟩ := hc.code
  obtain ⟨-, -, -, -, -, hcap, -⟩ := hctl
  have hzero : t.errcode = 0#8 ↔ code = 0 := by
    rw [← herrcode, ← BitVec.toNat_inj]; rfl
  constructor
  case cap => unfold State.CapOk; rw [hcap]; exact h.cap
  case bufWf => exact hw.wf h.bufWf
  case bufWithin => rw [hcap]; exact hw.within _ (Nat.le_refl _) h.bufWithin
  case errIff => rw [Bool.eq_iff_iff]; simp [herr, hzero]
  case codeLegal => omega
  case busyNotDone => simp [hbusy]
  case busyLastop => simp [hbusy]
  case noResults =>
    intro hor
    have hne : code ≠ 0 := by simpa [hbusy, hzero] using hor
    obtain ⟨-, hr, hpo, hpl⟩ := hc.results (by simpa [herr] using hne)
    rw [hr, hpo, hpl]
    exact h.noResults (.inl hb)
  case noInfo =>
    intro hok
    obtain ⟨h0, h1, h2⟩ := hc.info (by simpa [herr] using hzero.mp hok)
    rw [h0, h1, h2]
    exact h.noInfo (h.busyNotDone hb).2

theorem State.Inv.exec {s t : State} {i : Instr} (h : s.Inv) (hb : s.busy = true)
    (ht : exec i s = .next t) : t.Inv := by
  have hres := exec_result ht
  obtain ⟨k, hk, -, hw⟩ := hres.writes h.cap
  exact h.completes hb hres.completes (hw.mono hk)

theorem State.Inv.illegal {s : State} (h : s.Inv) (hb : s.busy = true) (e : CmdError) :
    (s.raised e).Inv :=
  h.completes hb (.raised (by simp [KeepsControl]) (by simp [KeepsResults]) e) (.of_buf_eq rfl rfl)

/-- Settles O24, by cases over what a step can do. -/
theorem stepKeepsInvariant : Obligations.StepKeepsInvariant := by
  intro s t h hstep
  cases stepsTo_of_step hstep with
  | host a r op t hturns hop heff => exact h.nextTurn.hostEffect hop heff
  | powerOn => exact h.nextTurn.powerOnReset
  | idle => exact h.nextTurn
  | command i t hturns hb hexec => exact h.nextTurn.exec hb hexec
  | illegal hturns hb => exact h.nextTurn.illegal hb _

end Sys2Proof.Machine

/-! # Commands: completion and footprint -/

namespace Sys2Proof.Machine

/-- Settles O9: a command ends with an error or with success, and both complete it. -/
theorem everyCommandCompletes : Obligations.EveryCommandCompletes := by
  intro i s
  obtain ⟨t, ht⟩ := exec_next i s
  obtain ⟨code, hcode, hdone⟩ := (exec_result ht).completes.code
  exact ⟨t, code, ht, hcode, hdone⟩

theorem CommandResult.value_eq {i : Instr} {s t : State} (h : CommandResult i s t)
    (hi : i ≠ .vlqDec) : t.value = s.value := by
  cases h with
  | error | frameError => rfl
  | success u h => exact h.value hi

theorem CommandResult.poff_eq {i : Instr} {s t : State} (h : CommandResult i s t)
    (hi : i ∉ [Instr.padsize, .build, .buildz, .parse, .reseal, .decodeView]) : t.poff = s.poff := by
  cases h with
  | error | frameError => rfl
  | success u h => exact h.poff hi

theorem CommandResult.plen_eq {i : Instr} {s t : State} (h : CommandResult i s t)
    (hi : i ∉ [Instr.padsize, .build, .buildz, .parse, .reseal, .decode, .decodeView]) :
    t.plen = s.plen := by
  cases h with
  | error | frameError => rfl
  | success u h => exact h.plen hi

/-- Only DECODE and DECODE_VIEW leave anything in BUF when they fail. -/
theorem CommandResult.sameBytes_of_err {i : Instr} {s t : State} (h : CommandResult i s t)
    (herr : t.err = true) (hd : i ≠ .decode) (hv : i ≠ .decodeView) : SameBytes s t := by
  cases h with
  | error e => exact State.byteAt_congr rfl rfl
  | frameError f e hi => exact (hi.elim hd hv).elim
  | success u h => cases herr

/-- Settles O25: the bytes by the bound on a command's writes, the registers by how it ended. -/
theorem writeFootprint : Obligations.WriteFootprint := by
  intro i s t hcap ht
  have hres := exec_result ht
  obtain ⟨-, -, -, -, -, -, hcontrol⟩ := hres.completes.code
  obtain ⟨k, -, hbound, hw⟩ := hres.writes hcap
  have hbytes : ∀ a, inputLength i s ≤ a → t.rlen.toNat ≤ a → t.byteAt a = s.byteAt a :=
    fun a hin hout => hw.same a (hbound.elim (·.trans hin) (·.trans hout))
  exact ⟨hbytes, hcontrol, hres.value_eq, hres.poff_eq, hres.plen_eq, hres.completes.info,
    hres.completes.results, hres.sameBytes_of_err⟩

end Sys2Proof.Machine

/-! # Steps -/

namespace Sys2Proof.Machine

/-! ## The steps of single turns -/

theorem State.writeCtrl_of_enable (s : State) {v : Word} (hv : v.getLsbD 1 = false) :
    s.writeCtrl v = { s with ie := v.getLsbD 0 } := if_neg (by rw [hv]; decide)

theorem State.writeCtrl_of_srst (s : State) {v : Word} (hv : v.getLsbD 1 = true) :
    s.writeCtrl v = s.softReset := if_pos hv

section
variable {s : State} {r : List Turn}

theorem step_of_cmdWrite {w : Word} (hb : s.busy = false)
    (h : s.turns = .host (regWriteAccess .cmd w) :: r) :
    step s = .next ({ s with turns := r }.accept w) := by
  rw [step_of_regWrite h]
  simp [State.writeReg, hb]

theorem step_of_statusWrite {v : Word} (h : s.turns = .host (regWriteAccess .status v) :: r) :
    step s = .next ({ s with turns := r }.writeStatus v) := step_of_regWrite h

theorem step_of_enableWrite {v : Word} (hv : v.getLsbD 1 = false)
    (h : s.turns = .host (regWriteAccess .ctrl v) :: r) :
    step s = .next { s with turns := r, ie := v.getLsbD 0 } := by
  rw [step_of_regWrite h]
  exact congrArg _ (State.writeCtrl_of_enable _ hv)

theorem step_of_softReset {v : Word} (hv : v.getLsbD 1 = true)
    (h : s.turns = .host (regWriteAccess .ctrl v) :: r) :
    step s = .next { s with turns := r }.softReset := by
  rw [step_of_regWrite h]
  exact congrArg _ (State.writeCtrl_of_srst _ hv)

theorem step_of_droppedRegWrite {reg : Reg} {v : Word} (hb : s.busy = true)
    (hreg : reg ∈ [Reg.cmd, .len, .value]) (h : s.turns = .host (regWriteAccess reg v) :: r) :
    step s = .next { s with turns := r, ovr := true } := by
  rw [step_of_regWrite h]
  simp only [List.mem_cons, List.not_mem_nil, or_false] at hreg
  rcases hreg with rfl | rfl | rfl <;> simp [State.writeReg, State.dropWrite, hb]

theorem step_of_droppedBufWrite {i : Nat} {v : Word} (hb : s.busy = true) (hi : i < s.bufCap)
    (h : s.turns = .host ⟨.buf, i, 8, .write v⟩ :: r) :
    step s = .next { s with turns := r, ovr := true } := by
  rw [step_of_legalAccess h (busOp_bufWrite hi v)]
  simp [State.busStep, State.writeBuf, State.dropWrite, hb]

/-- At the block's turn a pending word completes, whether it is a command or illegal
(10_state.md R43). -/
theorem step_completes (hb : s.busy = true) (hturn : BlockTurn s) :
    ∃ t, step s = .next t ∧ Completes s.nextTurn t := by
  rw [step_of_blockTurn hturn]
  rcases blockStep_cases s.nextTurn with ⟨hidle, -⟩ | ⟨i, -, -, he⟩ | ⟨-, -, he⟩
  · rw [State.nextTurn_busy, hb] at hidle
    cases hidle
  · obtain ⟨t, ht⟩ := exec_next i s.nextTurn
    exact ⟨t, he.trans ht, (exec_result ht).completes⟩
  · exact ⟨_, he, .raised (by simp [KeepsControl]) (by simp [KeepsResults]) _⟩

end

theorem Completes.done_eq {s t : State} (h : Completes s t) : t.done = true := by
  obtain ⟨-, -, -, hdone, -⟩ := h.code
  exact hdone

theorem Completes.busy_eq {s t : State} (h : Completes s t) : t.busy = false := by
  obtain ⟨-, -, hbusy, -⟩ := h.code
  exact hbusy

theorem Completes.keepsControl {s t : State} (h : Completes s t) : KeepsControl s t := by
  obtain ⟨-, -, -, -, -, -, hcontrol⟩ := h.code
  exact hcontrol

@[simp] theorem State.softReset_done (s : State) : s.softReset.done = false := by
  rcases s.softReset_cases with ⟨-, h⟩ | ⟨-, h⟩ <;> simp [h]

@[simp] theorem State.softReset_ovr (s : State) : s.softReset.ovr = false := by
  rcases s.softReset_cases with ⟨-, h⟩ | ⟨-, h⟩ <;> simp [h]

@[simp] theorem State.softReset_ie (s : State) : s.softReset.ie = false := by
  rcases s.softReset_cases with ⟨-, h⟩ | ⟨-, h⟩ <;> simp [h]

/-! ## A pending command and the host -/

/-- What the host cannot touch while a command is pending: the command, its operands, BUF, the result
registers and the error report (70_reset_and_hazards.md R236, R239). -/
structure PendingKept (s t : State) : Prop where
  busy : t.busy = s.busy
  pending : t.pending = s.pending
  lastop : t.lastop = s.lastop
  len : t.len = s.len
  results : KeepsResults s t
  info : KeepsInfo s t
  errcode : t.errcode = s.errcode
  err : t.err = s.err
  bufCap : t.bufCap = s.bufCap
  buf : t.buf = s.buf
  bufDraw : t.bufDraw = s.bufDraw

theorem PendingKept.refl (s : State) : PendingKept s s :=
  ⟨rfl, rfl, rfl, rfl, ⟨rfl, rfl, rfl, rfl⟩, ⟨rfl, rfl, rfl⟩, rfl, rfl, rfl, rfl, rfl⟩

theorem PendingKept.trans {s t u : State} (h₁ : PendingKept s t) (h₂ : PendingKept t u) :
    PendingKept s u := by
  obtain ⟨hv, hr, hpo, hpl⟩ := h₁.results
  obtain ⟨hi0, hi1, hi2⟩ := h₁.info
  exact {
    busy := h₂.busy.trans h₁.busy
    pending := h₂.pending.trans h₁.pending
    lastop := h₂.lastop.trans h₁.lastop
    len := h₂.len.trans h₁.len
    results := by unfold KeepsResults; rw [← hv, ← hr, ← hpo, ← hpl]; exact h₂.results
    info := by unfold KeepsInfo; rw [← hi0, ← hi1, ← hi2]; exact h₂.info
    errcode := h₂.errcode.trans h₁.errcode
    err := h₂.err.trans h₁.err
    bufCap := h₂.bufCap.trans h₁.bufCap
    buf := h₂.buf.trans h₁.buf
    bufDraw := h₂.bufDraw.trans h₁.bufDraw }

theorem PendingKept.sameBytes {s t : State} (h : PendingKept s t) : SameBytes s t :=
  State.byteAt_congr h.buf h.bufDraw

/-- While BUSY, a legal access that does not reset the block leaves the command alone, and the turns. -/
theorem HostEffect.pendingKept {s t : State} {op : BusOp} (h : HostEffect s op t)
    (hb : s.busy = true) (hop : ∀ v, v.getLsbD 1 = true → op ≠ .writeReg (some .ctrl) v) :
    PendingKept s t ∧ t.turns = s.turns := by
  cases h with
  | softReset v hv => exact absurd rfl (hop v hv)
  | accept _ hidle | setLen _ hidle | setValue _ hidle | writeBuf _ _ hidle =>
    rw [hb] at hidle
    cases hidle
  | readReg | readBuf | dropReg | dropBuf | status | enable | ignored =>
    exact ⟨⟨rfl, rfl, rfl, rfl, ⟨rfl, rfl, rfl, rfl⟩, ⟨rfl, rfl, rfl⟩, rfl, rfl, rfl, rfl, rfl⟩, rfl⟩

/-- A calm host turn is a legal access that is no soft reset. -/
theorem busOp_of_calmTurn {cap : Nat} {a : Access} (h : calmTurn cap (.host a) = true) :
    ∃ op, busOp cap a = some op ∧ ∀ v, v.getLsbD 1 = true → op ≠ .writeReg (some .ctrl) v := by
  have hlegal : WellFormed.access cap a = true := (Bool.and_eq_true_iff.mp h).1
  obtain ⟨op, hop⟩ := Option.isSome_iff_exists.mp ((busOp_isSome cap a).trans hlegal)
  refine ⟨op, hop, fun v hv hreset => ?_⟩
  subst hreset
  obtain rfl := eq_regWriteAccess_of_busOp hop
  simp only [calmTurn, regWriteAccess, offsetOf, hv, beq_self_eq_true, Bool.true_and, Bool.not_true,
    Bool.and_false, Bool.false_eq_true] at h

theorem step_of_calmHost {s : State} {a : Access} {r : List Turn} (hb : s.busy = true)
    (h : s.turns = .host a :: r) (hcalm : calmTurn s.bufCap (.host a) = true) :
    ∃ t, step s = .next t ∧ PendingKept s t ∧ t.turns = r := by
  obtain ⟨op, hop, hreset⟩ := busOp_of_calmTurn hcalm
  obtain ⟨hkept, hturns⟩ :=
    (busStep_effect { s with turns := r } op).pendingKept hb hreset
  exact ⟨_, step_of_legalAccess h hop, { hkept with }, hturns⟩

theorem run_succ_of_step (M : Host.Core) {s t : M.State} (k : Nat) (h : M.step s = .next t) :
    M.run (k + 1) s = M.run k t := by
  rw [Host.Core.run, h]

/-- Calm turns run out, or the block's turn comes first; the pending command is as it was then. By
induction on the turns listed. -/
theorem run_to_blockTurn {s : State} (hb : s.busy = true)
    (hcalm : ∀ x ∈ s.turns, calmTurn s.bufCap x = true) :
    ∃ k u, k ≤ s.turns.length ∧ Sys2Proof.core.run k s = .next u ∧ PendingKept s u ∧
      BlockTurn u := by
  induction hturns : s.turns generalizing s with
  | nil => exact ⟨0, s, Nat.zero_le _, rfl, .refl s, .inl hturns⟩
  | cons x r ih =>
    rw [hturns] at hcalm
    have hx := hcalm x List.mem_cons_self
    cases x with
    | block => exact ⟨0, s, Nat.zero_le _, rfl, .refl s, .inr ⟨r, hturns⟩⟩
    | powerOn => cases hx
    | host a =>
      obtain ⟨t, hstep, hkept, ht⟩ := step_of_calmHost hb hturns hx
      have hrest : ∀ x ∈ t.turns, calmTurn t.bufCap x = true := by
        rw [ht, hkept.bufCap]
        exact fun x hx => hcalm x (List.mem_cons_of_mem _ hx)
      obtain ⟨k, u, hk, hrun, hu, hturn⟩ := ih (hkept.busy.trans hb) hrest ht
      refine ⟨k + 1, u, Nat.succ_le_succ hk, ?_, hkept.trans hu, hturn⟩
      exact (run_succ_of_step Sys2Proof.core k hstep).trans hrun

/-- Settles O10: calm turns lead to the block's turn with the command as it was, and that turn
completes it. -/
theorem pendingCommandIsExecuted : Obligations.PendingCommandIsExecuted := by
  intro s hb hcalm
  obtain ⟨k, u, hk, hrun, hkept, hturn⟩ := run_to_blockTurn hb hcalm
  have hbu := hkept.busy.trans hb
  obtain ⟨t, hstep, hdone⟩ := step_completes hbu hturn
  exact ⟨k, u, t, hk, hrun, hbu, hkept.pending, hkept.len, hkept.results.1, hkept.sameBytes, hstep,
    hdone.busy_eq, hdone.done_eq⟩

/-! ## DONE, OVR and IRQ -/

/-- A host access leaves DONE or clears it, and clears it in three ways only (10_state.md R27). -/
theorem HostEffect.done_cases {s t : State} {op : BusOp} (h : HostEffect s op t) :
    t.done = s.done ∨ t.done = false ∧
      ((s.busy = false ∧ ∃ w, op = .writeReg (some .cmd) w) ∨
        (∃ v, v.getLsbD 1 = true ∧ op = .writeReg (some .status) v) ∨
        ∃ v, v.getLsbD 1 = true ∧ op = .writeReg (some .ctrl) v) := by
  cases h with
  | accept w hb => exact .inr ⟨rfl, .inl ⟨hb, w, rfl⟩⟩
  | status v =>
    cases hv : v.getLsbD 1 with
    | false => exact .inl (by rw [State.writeStatus_done, hv, Bool.not_false, Bool.and_true])
    | true => exact .inr ⟨by simp [hv], .inr (.inl ⟨v, hv, rfl⟩)⟩
  | softReset v hv => exact .inr ⟨s.softReset_done, .inr (.inr ⟨v, hv, rfl⟩)⟩
  | readReg | readBuf | dropReg | dropBuf | enable | setLen | setValue | writeBuf | ignored =>
    exact .inl rfl

/-- A host access leaves OVR, sets it by being dropped, or clears it by W1C or reset
(10_state.md R29). -/
theorem HostEffect.ovr_cases {s t : State} {op : BusOp} (h : HostEffect s op t) :
    t.ovr = s.ovr ∨
    (s.busy = true ∧ t = s.dropWrite ∧
      ((∃ reg v, reg ∈ [Reg.cmd, .len, .value] ∧ op = .writeReg (some reg) v) ∨
        ∃ i b, op = .writeBuf i b)) ∨
    (t.ovr = false ∧
      ((∃ v, v.getLsbD 3 = true ∧ op = .writeReg (some .status) v) ∨
        ∃ v, v.getLsbD 1 = true ∧ op = .writeReg (some .ctrl) v)) := by
  cases h with
  | dropReg r v hr hb => exact .inr (.inl ⟨hb, rfl, .inl ⟨r, v, hr, rfl⟩⟩)
  | dropBuf i b hb => exact .inr (.inl ⟨hb, rfl, .inr ⟨i, b, rfl⟩⟩)
  | status v =>
    cases hv : v.getLsbD 3 with
    | false => exact .inl (by rw [State.writeStatus_ovr, hv, Bool.not_false, Bool.and_true])
    | true => exact .inr (.inr ⟨by simp [hv], .inl ⟨v, hv, rfl⟩⟩)
  | softReset v hv => exact .inr (.inr ⟨s.softReset_ovr, .inr ⟨v, hv, rfl⟩⟩)
  | readReg | readBuf | accept | enable | setLen | setValue | writeBuf | ignored => exact .inl rfl

/-- DONE rises in an execution step only (10_state.md R27). -/
theorem StepsTo.done_rises {s t : State} (h : StepsTo s t) (hs : s.done = false)
    (ht : t.done = true) : s.busy = true ∧ BlockTurn s := by
  cases h with
  | host a r op t hturns hop heff =>
    rcases heff.done_cases with heq | ⟨hf, -⟩
    · rw [heq, State.nextTurn_done, hs] at ht
      cases ht
    · rw [hf] at ht
      cases ht
  | powerOn => cases ht
  | idle => rw [State.nextTurn_done, hs] at ht; cases ht
  | command i t hturns hb => exact ⟨hb, hturns⟩
  | illegal hturns hb => exact ⟨hb, hturns⟩

/-- DONE falls with an acceptance, a W1C write or a reset only (10_state.md R27). -/
theorem StepsTo.done_falls {s t : State} (h : StepsTo s t) (hs : s.done = true)
    (ht : t.done = false) :
    (∃ w r, s.busy = false ∧ s.turns = .host (regWriteAccess .cmd w) :: r) ∨
      (∃ v r, v.getLsbD 1 = true ∧ s.turns = .host (regWriteAccess .status v) :: r) ∨
      (∃ v r, v.getLsbD 1 = true ∧ s.turns = .host (regWriteAccess .ctrl v) :: r) ∨
      ∃ r, s.turns = .powerOn :: r := by
  cases h with
  | host a r op t hturns hop heff =>
    rcases heff.done_cases with heq | ⟨-, ⟨hb, w, rfl⟩ | ⟨v, hv, rfl⟩ | ⟨v, hv, rfl⟩⟩
    · rw [heq, State.nextTurn_done, hs] at ht
      cases ht
    · exact .inl ⟨w, r, hb, eq_regWriteAccess_of_busOp hop ▸ hturns⟩
    · exact .inr (.inl ⟨v, r, hv, eq_regWriteAccess_of_busOp hop ▸ hturns⟩)
    · exact .inr (.inr (.inl ⟨v, r, hv, eq_regWriteAccess_of_busOp hop ▸ hturns⟩))
  | powerOn r hturns => exact .inr (.inr (.inr ⟨r, hturns⟩))
  | idle => rw [State.nextTurn_done, hs] at ht; cases ht
  | command i t hturns hb hexec => rw [(exec_result hexec).completes.done_eq] at ht; cases ht
  | illegal => cases ht

/-- Settles O18: the writes by the step of each turn, and that there are no others by cases over what
a step can do. -/
theorem doneIsWrittenOnlyInTheStatedPlaces : Obligations.DoneIsWrittenOnlyInTheStatedPlaces := by
  intro s t h
  refine ⟨fun hb hturn => ?_, fun w r hb hturns => ?_, fun v r hv hturns => ?_,
    fun v r hv hturns => ?_, fun r hturns => ?_, (stepsTo_of_step h).done_rises,
    (stepsTo_of_step h).done_falls⟩
  · obtain ⟨t', hstep, hdone⟩ := step_completes hb hturn
    obtain rfl := Host.Outcome.next.inj (hstep.symm.trans h)
    exact hdone.done_eq
  · obtain rfl := Host.Outcome.next.inj ((step_of_cmdWrite hb hturns).symm.trans h)
    rfl
  · obtain rfl := Host.Outcome.next.inj ((step_of_statusWrite hturns).symm.trans h)
    simp [hv]
  · obtain rfl := Host.Outcome.next.inj ((step_of_softReset hv hturns).symm.trans h)
    exact State.softReset_done _
  · obtain rfl := Host.Outcome.next.inj ((step_of_powerOn hturns).symm.trans h)
    rfl

/-- OVR rises with a dropped write only, which changes nothing else (10_state.md R29). -/
theorem StepsTo.ovr_rises {s t : State} (h : StepsTo s t) (hs : s.ovr = false) (ht : t.ovr = true) :
    s.busy = true ∧
      ((∃ reg v r, reg ∈ [Reg.cmd, .len, .value] ∧ s.turns = .host (regWriteAccess reg v) :: r) ∨
        ∃ i v r, i < s.bufCap ∧ s.turns = .host ⟨.buf, i, 8, .write v⟩ :: r) ∧
      t = { s with turns := s.turns.tail, ovr := true } := by
  cases h with
  | host a r op t hturns hop heff =>
    rcases heff.ovr_cases with heq | ⟨hb, rfl, ⟨reg, v, hreg, rfl⟩ | ⟨i, b, rfl⟩⟩ | ⟨hf, -⟩
    · rw [heq, State.nextTurn_ovr, hs] at ht
      cases ht
    · exact ⟨hb, .inl ⟨reg, v, r, hreg, eq_regWriteAccess_of_busOp hop ▸ hturns⟩, rfl⟩
    · obtain ⟨hi, v, rfl⟩ := eq_bufWrite_of_busOp hop
      exact ⟨hb, .inr ⟨i, v, r, hi, hturns⟩, rfl⟩
    · rw [hf] at ht
      cases ht
  | powerOn => cases ht
  | idle => rw [State.nextTurn_ovr, hs] at ht; cases ht
  | command i t hturns hb hexec =>
    rw [(exec_result hexec).completes.keepsControl.1, State.nextTurn_ovr, hs] at ht
    cases ht
  | illegal => rw [State.raised_ovr, State.nextTurn_ovr, hs] at ht; cases ht

/-- OVR falls with a W1C write or a reset only (10_state.md R29). -/
theorem StepsTo.ovr_falls {s t : State} (h : StepsTo s t) (hs : s.ovr = true) (ht : t.ovr = false) :
    (∃ v r, v.getLsbD 3 = true ∧ s.turns = .host (regWriteAccess .status v) :: r) ∨
      (∃ v r, v.getLsbD 1 = true ∧ s.turns = .host (regWriteAccess .ctrl v) :: r) ∨
      ∃ r, s.turns = .powerOn :: r := by
  cases h with
  | host a r op t hturns hop heff =>
    rcases heff.ovr_cases with heq | ⟨-, rfl, -⟩ | ⟨-, ⟨v, hv, rfl⟩ | ⟨v, hv, rfl⟩⟩
    · rw [heq, State.nextTurn_ovr, hs] at ht
      cases ht
    · cases ht
    · exact .inl ⟨v, r, hv, eq_regWriteAccess_of_busOp hop ▸ hturns⟩
    · exact .inr (.inl ⟨v, r, hv, eq_regWriteAccess_of_busOp hop ▸ hturns⟩)
  | powerOn r hturns => exact .inr (.inr ⟨r, hturns⟩)
  | idle => rw [State.nextTurn_ovr, hs] at ht; cases ht
  | command i t hturns hb hexec =>
    rw [(exec_result hexec).completes.keepsControl.1, State.nextTurn_ovr, hs] at ht
    cases ht
  | illegal => rw [State.raised_ovr, State.nextTurn_ovr, hs] at ht; cases ht

/-- Settles O19: a dropped write by its step, and that OVR changes nowhere else by cases over what a
step can do. -/
theorem overrunFlagIsSticky : Obligations.OverrunFlagIsSticky := by
  intro s t h
  refine ⟨fun w r hb hturns => ?_, fun reg v r hb hreg hturns => ?_, fun i v r hb hi hturns => ?_,
    (stepsTo_of_step h).ovr_rises, (stepsTo_of_step h).ovr_falls⟩
  · obtain rfl := Host.Outcome.next.inj ((step_of_cmdWrite hb hturns).symm.trans h)
    rfl
  · exact Host.Outcome.next.inj (h.symm.trans (step_of_droppedRegWrite hb hreg hturns))
  · exact Host.Outcome.next.inj (h.symm.trans (step_of_droppedBufWrite hb hi hturns))

/-- The interrupt level, by its definition (10_state.md R41). -/
theorem State.irq_eq (s : State) : s.irq = (s.ie && s.done) := rfl

/-- Settles O21: the level is IE and DONE, and each event's step says what these are after it. -/
theorem irqFollowsEnableAndDone : Obligations.IrqFollowsEnableAndDone := by
  refine ⟨State.irq_eq, fun s t h => ⟨fun hb hturn => ?_, fun v r hturns hv => ?_,
    fun v r hturns hv => ?_, fun v r hturns hv => ?_, fun w r hb hturns => ?_,
    fun r hturns => ?_⟩⟩
  · obtain ⟨t', hstep, hdone⟩ := step_completes hb hturn
    obtain rfl := Host.Outcome.next.inj (hstep.symm.trans h)
    obtain ⟨-, -, hie, -⟩ := hdone.keepsControl
    rw [State.irq_eq, hdone.done_eq, hie, Bool.and_true, State.nextTurn_ie]
  · obtain rfl := Host.Outcome.next.inj ((step_of_enableWrite hv hturns).symm.trans h)
    rfl
  · obtain rfl := Host.Outcome.next.inj ((step_of_softReset hv hturns).symm.trans h)
    simp [State.irq_eq]
  · obtain rfl := Host.Outcome.next.inj ((step_of_statusWrite hturns).symm.trans h)
    simp [State.irq_eq, hv]
  · obtain rfl := Host.Outcome.next.inj ((step_of_cmdWrite hb hturns).symm.trans h)
    simp [State.irq_eq]
  · obtain rfl := Host.Outcome.next.inj ((step_of_powerOn hturns).symm.trans h)
    rfl

end Sys2Proof.Machine

/-! # The single statements about acceptance, CTRL, the layout and reset -/

namespace Sys2Proof.Machine

/-- Settles O6: the block's turn while BUSY is the execution step of PENDING. -/
theorem stepRunsPendingCommand : Obligations.StepRunsPendingCommand := by
  intro s i hb hturn hdec
  rw [step_of_blockTurn hturn]
  rcases blockStep_cases s.nextTurn with ⟨hidle, -⟩ | ⟨j, -, hj, he⟩ | ⟨-, hill, -⟩
  · rw [State.nextTurn_busy, hb] at hidle
    cases hidle
  · obtain rfl : j = i := Option.some.inj (hj.symm.trans hdec)
    exact he
  · cases hill.symm.trans hdec

/-- Settles O12: the write's step is acceptance. -/
theorem commandAcceptance : Obligations.CommandAcceptance :=
  fun _ _ _ hb hturns => step_of_cmdWrite hb hturns

theorem State.clearRegisters_eq_reset (s : State) :
    s.clearRegisters = { State.reset with
      buf := s.buf, bufCap := s.bufCap, bufDraw := s.bufDraw, readDraw := s.readDraw,
      turns := s.turns, hostReads := s.hostReads } := rfl

/-- After a drawing every BUF byte is unspecified (log 1). -/
theorem State.byteAt_drawBuf (s : State) (i : Nat) :
    s.drawBuf.byteAt i = Config.unknownByte s.drawBuf.bufDraw i := rfl

/-- Settles O16: the soft reset clears the registers, and draws BUF anew when BUSY. -/
theorem ctrlWriteAndSoftReset : Obligations.CtrlWriteAndSoftReset := by
  intro s v r hturns
  refine ⟨fun hv => step_of_enableWrite hv hturns,
    fun hv => ⟨_, step_of_softReset hv hturns, ?_⟩⟩
  rcases State.softReset_cases { s with turns := r } with ⟨hb, h⟩ | ⟨hb, h⟩
  · rw [h]
    refine ⟨rfl, fun hidle => ?_, fun _ => ⟨Nat.succ_ne_self _, State.byteAt_drawBuf _⟩⟩
    cases hb.symm.trans hidle
  · rw [h]
    refine ⟨State.clearRegisters_eq_reset _, fun _ => ⟨rfl, rfl⟩, fun hbusy => ?_⟩
    cases hb.symm.trans hbusy

theorem getLsbD_ofBool_zero (b : Bool) : (BitVec.ofBool b).getLsbD 0 = b :=
  (BitVec.getLsbD_ofBool b 0).trans rfl

/-- The four flags of STATUS (10_state.md R26). -/
theorem State.statusWord_flags (s : State) :
    s.statusWord.getLsbD 0 = s.busy ∧ s.statusWord.getLsbD 1 = s.done ∧
      s.statusWord.getLsbD 2 = s.err ∧ s.statusWord.getLsbD 3 = s.ovr := by
  have hlow : ∀ j, s.statusWord.getLsbD j = ((0 : BitVec 40) ++ s.lastop ++ s.errcode ++
      (0 : BitVec 4) ++ BitVec.ofBool s.ovr ++ BitVec.ofBool s.err ++ BitVec.ofBool s.done ++
      BitVec.ofBool s.busy).getLsbD j := fun _ => rfl
  simp only [hlow, BitVec.getLsbD_append]
  exact ⟨getLsbD_ofBool_zero _, getLsbD_ofBool_zero _, getLsbD_ofBool_zero _,
    getLsbD_ofBool_zero _⟩

/-- The fields of STATUS above the flags (10_state.md R26). -/
theorem State.extractLsb'_statusWord (s : State) {start : Nat} (h : 4 ≤ start) (len : Nat) :
    s.statusWord.extractLsb' start len =
      ((0 : BitVec 40) ++ s.lastop ++ s.errcode ++ (0 : BitVec 4)).extractLsb' (start - 4) len := by
  show ((0 : BitVec 40) ++ s.lastop ++ s.errcode ++ (0 : BitVec 4) ++ BitVec.ofBool s.ovr ++
    BitVec.ofBool s.err ++ BitVec.ofBool s.done ++ BitVec.ofBool s.busy).extractLsb' start len = _
  rw [BitVec.extractLsb'_append_eq_of_le (by omega), BitVec.extractLsb'_append_eq_of_le (by omega),
    BitVec.extractLsb'_append_eq_of_le (by omega), BitVec.extractLsb'_append_eq_of_le (by omega)]
  rfl

/-- Settles O20: each field by its place in the concatenation that the word is. -/
theorem statusAndCtrlLayout : Obligations.StatusAndCtrlLayout := by
  intro s
  obtain ⟨hbusy, hdone, herr, hovr⟩ := s.statusWord_flags
  refine ⟨hbusy, hdone, herr, hovr, ?_, ?_, ?_, ?_, ?_, ?_⟩
  · rw [s.extractLsb'_statusWord (by decide), BitVec.extractLsb'_append_eq_of_add_le (by decide)]
    rfl
  · rw [s.extractLsb'_statusWord (by decide), BitVec.extractLsb'_append_eq_of_le (by decide),
      BitVec.extractLsb'_append_eq_of_add_le (by decide)]
    exact BitVec.extractLsb'_eq_self
  · rw [s.extractLsb'_statusWord (by decide), BitVec.extractLsb'_append_eq_of_le (by decide),
      BitVec.extractLsb'_append_eq_of_le (by decide),
      BitVec.extractLsb'_append_eq_of_add_le (by decide)]
    exact BitVec.extractLsb'_eq_self
  · rw [s.extractLsb'_statusWord (by decide), BitVec.extractLsb'_append_eq_of_le (by decide),
      BitVec.extractLsb'_append_eq_of_le (by decide), BitVec.extractLsb'_append_eq_of_le (by decide)]
    rfl
  · show ((0 : BitVec 63) ++ BitVec.ofBool s.ie).getLsbD 0 = s.ie
    rw [BitVec.getLsbD_append]
    exact getLsbD_ofBool_zero s.ie
  · show ((0 : BitVec 63) ++ BitVec.ofBool s.ie).extractLsb' 1 63 = 0
    rw [BitVec.extractLsb'_append_eq_of_le (by decide)]
    rfl

/-- The capacity that reset takes from the open parameter is legal (00_scope.md R7). -/
theorem State.reset_capOk : State.reset.CapOk := by
  have hmod := Nat.mod_lt Config.bufCapChoice (show 0 < 2 ^ 64 - 16 by decide)
  show 16 ≤ Config.bufCap ∧ Config.bufCap ≤ 2 ^ 64 - 1
  unfold Config.bufCap
  omega

/-- Settles O22: the registers by evaluation, the capacity by the bound on the open parameter. -/
theorem resetState : Obligations.ResetState :=
  ⟨by decide, by decide, rfl, rfl, rfl, rfl, rfl, rfl, rfl, rfl, rfl, rfl, fun _ => rfl,
    State.reset_capOk⟩

/-- Settles O23: no byte is listed, and every register is 0. -/
theorem resetSatisfiesInvariant : Obligations.ResetSatisfiesInvariant where
  cap := State.reset_capOk
  bufWf := State.reset_buf_wf
  bufWithin := by simp [State.reset, Memory.within]
  errIff := by decide
  codeLegal := by decide
  busyNotDone := by decide
  busyLastop := by decide
  noResults := fun _ => ⟨rfl, rfl, rfl⟩
  noInfo := fun _ => ⟨rfl, rfl, rfl⟩

end Sys2Proof.Machine

/-! # The host's accesses: settling the family of 20_memory.md

The facts about the bus that the sections before leave out: reads, reserved offsets and access errors;
then what each access does as a step; then the obligations, each clause a use of these. -/

namespace Sys2Proof.Machine

/-! ## Reads, reserved offsets and access errors on the bus -/

theorem offsetOf_le (r : Reg) : offsetOf r ≤ 0x50 := by
  cases r <;> decide

/-- The offsets above the register map are reserved (10_state.md R39). -/
theorem regAt_reserved {off : Nat} (h : 0x58 ≤ off) : regAt off = none := by
  cases hr : regAt off with
  | none => rfl
  | some r =>
    have hoff := regAt_eq_some_iff.mp hr
    have hle := offsetOf_le r
    omega

theorem busOp_regRead {cap off : Nat} (h8 : off % 8 = 0) (hff : off ≤ 0xFF) :
    busOp cap ⟨.reg, off, 64, .read⟩ = some (.readReg (regAt off)) := by
  simp [busOp, h8, hff]

theorem busOp_regReadAccess (cap : Nat) (r : Reg) :
    busOp cap (regReadAccess r) = some (.readReg (some r)) := by
  obtain ⟨h8, hff⟩ := offsetOf_legal r
  rw [regReadAccess, busOp_regRead h8 hff, regAt_offsetOf]

theorem busOp_bufRead {cap i : Nat} (h : i < cap) :
    busOp cap (bufReadAccess i) = some (.readBuf i) := by
  simp [busOp, bufReadAccess, h]

/-- The legal accesses that read are the reads of the bus. -/
theorem busOp_read_cases {cap : Nat} {a : Access} {op : BusOp} (hdir : a.dir = .read)
    (h : busOp cap a = some op) : (∃ r, op = .readReg r) ∨ ∃ i, op = .readBuf i := by
  cases ha : a.space with
  | reg =>
    obtain ⟨-, -, -, ⟨-, hop⟩ | ⟨v, hwrite, -⟩⟩ := busOp_reg_cases ha h
    · exact .inl ⟨_, hop⟩
    · cases hdir.symm.trans hwrite
  | buf =>
    obtain ⟨-, -, ⟨-, hop⟩ | ⟨v, hwrite, -⟩⟩ := busOp_buf_cases ha h
    · exact .inr ⟨_, hop⟩
    · cases hdir.symm.trans hwrite

/-- A transaction that is not legal is no access of the bus (20_memory.md R55). -/
theorem busOp_eq_none {cap : Nat} {a : Access} (h : WellFormed.access cap a = false) :
    busOp cap a = none :=
  Option.isNone_iff_eq_none.mp (Option.isSome_eq_false_iff.mp ((busOp_isSome cap a).trans h))

/-! ## What a read returns, and which writes are ignored -/

/-- A register reads its exact value while IDLE, and the registers that a command does not touch do
while BUSY too (20_memory.md R56). -/
theorem State.readReg_of_exact {s : State} {r : Option Reg}
    (h : s.busy = false ∨ exactWhileBusy r = true) :
    s.readReg r = s.record (.reg (s.regValue r)) := by
  refine if_neg fun hdrawn => ?_
  obtain ⟨hbusy, hopen⟩ := Bool.and_eq_true_iff.mp hdrawn
  rcases h with hidle | hexact
  · cases hidle.symm.trans hbusy
  · rw [hexact] at hopen
    cases hopen

/-- The value listed for a register is the one the bus reads (10_state.md R24 to R38). -/
theorem eq_regValue_of_mem (s : State) {reg : Reg} {v : Word}
    (h : (reg, v) ∈ [(Reg.cmd, 0), (.status, s.statusWord), (.ctrl, s.ctrlWord), (.len, s.len),
      (.value, s.value), (.rlen, s.rlen), (.poff, s.poff), (.plen, s.plen), (.einfo0, s.einfo0),
      (.einfo1, s.einfo1), (.einfo2, s.einfo2)]) : v = s.regValue (some reg) := by
  cases reg <;> simpa [State.regValue] using h

/-- Any other register read while BUSY draws an unspecified value (20_memory.md R56; log 5). -/
theorem State.readReg_of_unspecified {s : State} {r : Option Reg} (hb : s.busy = true)
    (h : exactWhileBusy r = false) :
    s.readReg r = (s.record (.reg (Config.busyWord s.readDraw))).drawRead :=
  if_pos (by rw [hb, h]; rfl)

theorem State.readBuf_of_idle {s : State} (hb : s.busy = false) (i : Nat) :
    s.readBuf i = s.record (.buf (s.byteAt i)) := if_neg (by rw [hb]; decide)

theorem State.readBuf_of_busy {s : State} (hb : s.busy = true) (i : Nat) :
    s.readBuf i = (s.record (.buf (Config.busyByte s.readDraw))).drawRead := if_pos hb

theorem State.writeBuf_of_idle {s : State} (hb : s.busy = false) (i : Nat) (b : Byte) :
    s.writeBuf i b = s.memWrite i [b] := if_neg (by rw [hb]; decide)

/-- The registers that commands write, all but VALUE, are read-only for the host. -/
theorem State.writeReg_of_readOnly (s : State) {reg : Reg} (v : Word)
    (h : reg ∈ [Reg.rlen, .poff, .plen, .einfo0, .einfo1, .einfo2]) :
    s.writeReg (some reg) v = s := by
  cases reg with
  | rlen | poff | plen | einfo0 | einfo1 | einfo2 => rfl
  | cmd | status | ctrl | len | value => exact absurd h (by decide)

/-- A read changes the record of read values and the drawing counter only (20_memory.md R57). -/
theorem HostEffect.eq_of_read {s t : State} {op : BusOp} (h : HostEffect s op t)
    (hop : (∃ r, op = .readReg r) ∨ ∃ i, op = .readBuf i) :
    ∃ v d, t = { s with hostReads := v :: s.hostReads, readDraw := d } := by
  rcases hop with ⟨r, rfl⟩ | ⟨i, rfl⟩
  · cases h with
    | readReg _ v d => exact ⟨v, d, rfl⟩
  · cases h with
    | readBuf _ v d => exact ⟨v, d, rfl⟩

/-! ## The steps of single accesses -/

section
variable {s : State} {r : List Turn}

theorem step_of_hostTurn {a : Access} (h : s.turns = .host a :: r) :
    step s = hostStep a s.nextTurn := by
  simp [step, h]

theorem step_of_accessError {a : Access} (h : s.turns = .host a :: r)
    (hop : busOp s.bufCap a = none) : step s = .fault (.accessError a) := by
  rw [step_of_hostTurn h]
  rcases hostStep_cases a s.nextTurn with ⟨-, hfault⟩ | ⟨op, hop', -⟩
  · exact hfault
  · cases hop.symm.trans hop'

theorem step_of_exactRead {off : Nat} (h8 : off % 8 = 0) (hff : off ≤ 0xFF)
    (hexact : s.busy = false ∨ exactWhileBusy (regAt off) = true)
    (h : s.turns = .host ⟨.reg, off, 64, .read⟩ :: r) :
    step s = .next { s with
      turns := r, hostReads := .reg (s.regValue (regAt off)) :: s.hostReads } :=
  (step_of_legalAccess h (busOp_regRead h8 hff)).trans
    (congrArg _ (State.readReg_of_exact (s := { s with turns := r }) hexact))

/-- A read of a named register, where it is exact. -/
theorem step_of_exactRegRead {reg : Reg} (hexact : s.busy = false ∨ exactWhileBusy (some reg) = true)
    (h : s.turns = .host (regReadAccess reg) :: r) :
    step s = .next { s with turns := r, hostReads := .reg (s.regValue (some reg)) :: s.hostReads } :=
  (step_of_legalAccess h (busOp_regReadAccess _ reg)).trans
    (congrArg _ (State.readReg_of_exact (s := { s with turns := r }) hexact))

/-- The reserved offsets read 0, while BUSY too (10_state.md R39; 20_memory.md R56). -/
theorem step_of_reservedRead {off : Nat} (h8 : off % 8 = 0) (hlow : 0x58 ≤ off) (hff : off ≤ 0xFF)
    (h : s.turns = .host ⟨.reg, off, 64, .read⟩ :: r) :
    step s = .next { s with turns := r, hostReads := .reg 0 :: s.hostReads } := by
  have hnone := regAt_reserved hlow
  have hstep := step_of_exactRead h8 hff (.inr (by rw [hnone]; rfl)) h
  rwa [hnone] at hstep

theorem step_of_unspecifiedRegRead {reg : Reg} (hb : s.busy = true)
    (hopen : exactWhileBusy (some reg) = false) (h : s.turns = .host (regReadAccess reg) :: r) :
    step s = .next { s with
      turns := r, hostReads := .reg (Config.busyWord s.readDraw) :: s.hostReads,
      readDraw := s.readDraw + 1 } :=
  (step_of_legalAccess h (busOp_regReadAccess _ reg)).trans
    (congrArg _ (State.readReg_of_unspecified (s := { s with turns := r }) hb hopen))

theorem step_of_bufRead_idle {i : Nat} (hb : s.busy = false) (hi : i < s.bufCap)
    (h : s.turns = .host (bufReadAccess i) :: r) :
    step s = .next { s with turns := r, hostReads := .buf (s.byteAt i) :: s.hostReads } :=
  (step_of_legalAccess h (busOp_bufRead hi)).trans
    (congrArg _ (State.readBuf_of_idle (s := { s with turns := r }) hb i))

theorem step_of_bufRead_busy {i : Nat} (hb : s.busy = true) (hi : i < s.bufCap)
    (h : s.turns = .host (bufReadAccess i) :: r) :
    step s = .next { s with
      turns := r, hostReads := .buf (Config.busyByte s.readDraw) :: s.hostReads,
      readDraw := s.readDraw + 1 } :=
  (step_of_legalAccess h (busOp_bufRead hi)).trans
    (congrArg _ (State.readBuf_of_busy (s := { s with turns := r }) hb i))

theorem step_of_readOnlyWrite {reg : Reg} {v : Word}
    (hreg : reg ∈ [Reg.rlen, .poff, .plen, .einfo0, .einfo1, .einfo2])
    (h : s.turns = .host (regWriteAccess reg v) :: r) : step s = .next { s with turns := r } :=
  (step_of_regWrite h).trans (congrArg _ (State.writeReg_of_readOnly _ v hreg))

/-- Writes to the reserved offsets are ignored (10_state.md R39). -/
theorem step_of_reservedWrite {off : Nat} {v : Word} (h8 : off % 8 = 0) (hlow : 0x58 ≤ off)
    (hff : off ≤ 0xFF) (h : s.turns = .host ⟨.reg, off, 64, .write v⟩ :: r) :
    step s = .next { s with turns := r } := by
  rw [step_of_legalAccess h (busOp_regWrite h8 hff v), regAt_reserved hlow]
  rfl

theorem step_of_lenWrite {v : Word} (hb : s.busy = false)
    (h : s.turns = .host (regWriteAccess .len v) :: r) :
    step s = .next { s with turns := r, len := v } :=
  (step_of_regWrite h).trans (congrArg _ (if_neg (by rw [hb]; decide)))

theorem step_of_valueWrite {v : Word} (hb : s.busy = false)
    (h : s.turns = .host (regWriteAccess .value v) :: r) :
    step s = .next { s with turns := r, value := v } :=
  (step_of_regWrite h).trans (congrArg _ (if_neg (by rw [hb]; decide)))

theorem step_of_bufWrite {i : Nat} {b : Byte} (hb : s.busy = false) (hi : i < s.bufCap)
    (h : s.turns = .host (bufWriteAccess i b) :: r) :
    step s = .next ({ s with turns := r }.memWrite i [b]) := by
  have hlow : (b.setWidth 64).setWidth 8 = b := by simp
  rw [step_of_legalAccess h (busOp_bufWrite hi (b.setWidth 64)), hlow]
  exact congrArg _ (State.writeBuf_of_idle (s := { s with turns := r }) hb i b)

end

/-! ## The obligations -/

/-- Settles O4: the bus takes no access that is not legal, and the step is then the fault. -/
theorem accessErrorIsFault : Obligations.AccessErrorIsFault :=
  fun _ _ _ hturns hill => step_of_accessError hturns (busOp_eq_none hill)

/-- Settles O15: a legal read is a read of the bus, whose effect is the record. -/
theorem readsHaveNoSideEffect : Obligations.ReadsHaveNoSideEffect := by
  intro s a r hturns hdir hlegal
  obtain ⟨op, hop⟩ := Option.isSome_iff_exists.mp ((busOp_isSome s.bufCap a).trans hlegal)
  obtain ⟨v, d, heffect⟩ :=
    (busStep_effect { s with turns := r } op).eq_of_read (busOp_read_cases hdir hop)
  exact ⟨v, d, (step_of_legalAccess hturns hop).trans (congrArg _ heffect)⟩

/-- Settles O13: one step lemma per clause; CMD is the register at offset 0. -/
theorem hostAccessesWhileBusy : Obligations.HostAccessesWhileBusy := by
  intro s r hb
  refine ⟨fun _ _ hreg => step_of_droppedRegWrite hb hreg, fun _ _ => step_of_droppedBufWrite hb,
    fun _ => step_of_statusWrite, fun _ hv => step_of_enableWrite hv,
    fun _ _ hreg => step_of_readOnlyWrite hreg,
    fun _ _ h8 hlow hff => step_of_reservedWrite h8 hlow hff,
    step_of_exactRegRead (.inr rfl), step_of_exactRegRead (.inr rfl),
    step_of_exactRegRead (.inr rfl), ?_, ?_, fun _ hi h => ⟨_, step_of_bufRead_busy hb hi h⟩⟩
  · rintro off h8 (rfl | ⟨hlow, hff⟩) h
    · exact step_of_exactRead (by decide) (by decide) (.inr rfl) h
    · exact step_of_reservedRead h8 hlow hff h
  · intro reg hreg h
    have hopen : ∀ x ∈ [Reg.value, .rlen, .poff, .plen, .einfo0, .einfo1, .einfo2],
        exactWhileBusy (some x) = false := by decide
    exact ⟨_, step_of_unspecifiedRegRead hb (hopen reg hreg) h⟩

/-- Settles O14: one step lemma per clause; a written byte is read back alone. -/
theorem hostAccessesWhileIdle : Obligations.HostAccessesWhileIdle := by
  intro s r hb
  refine ⟨fun reg v hv h => ?_, fun _ h8 hlow hff => step_of_reservedRead h8 hlow hff,
    fun _ => step_of_lenWrite hb, fun _ => step_of_valueWrite hb, fun _ => step_of_statusWrite,
    fun _ _ hreg => step_of_readOnlyWrite hreg,
    fun _ _ h8 hlow hff => step_of_reservedWrite h8 hlow hff,
    fun _ => step_of_bufRead_idle hb,
    fun i b hi h => ⟨_, step_of_bufWrite hb hi h, ?_, fun j hj => ?_, rfl⟩⟩
  · rw [eq_regValue_of_mem s hv]
    exact step_of_exactRegRead (.inl hb) h
  · rw [State.byteAt_memWrite, if_pos ⟨Nat.le_refl i, Nat.lt_succ_self i⟩, Nat.sub_self]
    rfl
  · have hout : j < i ∨ i + [b].length ≤ j := by simp only [List.length_singleton]; omega
    exact State.byteAt_memWrite_outside _ hout

end Sys2Proof.Machine

/-! # The command word: settling the family of 30_encoding.md

The two fields of a word; the opcode map as a two-sided inverse of `opcodeOf`; decoding a word, which puts
the two together; and the obligations, each a use of these. -/

namespace Sys2Proof

/-! ## The fields of a command word -/

/-- RSVD is 0 exactly for the zero-extensions of bytes (30_encoding.md R70). -/
theorem rsvd_eq_zero_iff {w : Word} : w.extractLsb' 8 56 = 0 ↔ w.toNat < 256 := by
  rw [← BitVec.toNat_inj, BitVec.extractLsb'_toNat, Nat.shiftRight_eq_div_pow]
  have hlt := w.isLt
  change w.toNat / 2 ^ 8 % 2 ^ 56 = 0 ↔ _
  omega

theorem opField_toNat (w : Word) : (w.extractLsb' 0 8).toNat = w.toNat % 256 := by
  rw [BitVec.extractLsb'_toNat, Nat.shiftRight_zero]

/-- A word is given by its two fields: it is the zero-extension of its OP field when RSVD is 0. -/
theorem eq_zeroExtend_iff {w : Word} {op : Byte} :
    w = op.setWidth 64 ↔ w.extractLsb' 8 56 = 0 ∧ w.extractLsb' 0 8 = op := by
  rw [rsvd_eq_zero_iff, ← BitVec.toNat_inj, ← BitVec.toNat_inj, opField_toNat, BitVec.toNat_setWidth]
  have hop := op.isLt
  omega

/-- The legal words are the numbers 1 to 11 (30_encoding.md R70, R73). -/
theorem commandWord_iff {w : Word} :
    WellFormed.commandWord w = true ↔ 1 ≤ w.toNat ∧ w.toNat ≤ 11 := by
  simp only [WellFormed.commandWord, Bool.and_eq_true, beq_iff_eq, decide_eq_true_eq,
    rsvd_eq_zero_iff, opField_toNat]
  omega

/-! ## The opcode map -/

@[simp] theorem decodeOpcode_opcodeOf (i : Instr) : decodeOpcode (opcodeOf i) = some i := by
  cases i <;> rfl

/-- Each row of the opcode map names the opcode of its command, so the map inverts `opcodeOf`. -/
theorem decodeOpcode_eq_some_iff {op : Byte} {i : Instr} :
    decodeOpcode op = some i ↔ op = opcodeOf i := by
  refine ⟨fun h => ?_, fun h => h ▸ decodeOpcode_opcodeOf i⟩
  unfold decodeOpcode at h
  split at h <;> cases h
  all_goals exact BitVec.eq_of_toNat_eq ‹_›

/-- The assigned opcodes are 0x01 to 0x0B (30_encoding.md R73). -/
theorem exists_opcodeOf_iff {op : Byte} :
    (∃ i, op = opcodeOf i) ↔ 1 ≤ op.toNat ∧ op.toNat ≤ 11 := by
  constructor
  · rintro ⟨i, rfl⟩
    cases i <;> decide
  · rintro ⟨hlow, hhigh⟩
    simp only [← decodeOpcode_eq_some_iff, ← Option.isSome_iff_exists]
    unfold decodeOpcode
    interval_cases op.toNat <;> rfl

/-! ## Decoding a word -/

/-- The first branch of `Decode` asks for RSVD = 0, the second reads OP (30_encoding.md R74). -/
theorem decodeCommand_eq_some_iff {w : Word} {i : Instr} :
    decodeCommand w = some i ↔
      w.extractLsb' 8 56 = 0 ∧ decodeOpcode (w.extractLsb' 0 8) = some i := by
  rw [decodeCommand, Option.ite_none_left_eq_some, not_not]

theorem decodeCommand_eq_some_iff_encode {w : Word} {i : Instr} :
    decodeCommand w = some i ↔ w = encode i := by
  rw [decodeCommand_eq_some_iff, decodeOpcode_eq_some_iff, encode, eq_zeroExtend_iff]

/-- The decoder accepts what the legality check accepts, which is written without it. -/
theorem decodeCommand_isSome_iff {w : Word} :
    (decodeCommand w).isSome = true ↔ WellFormed.commandWord w = true := by
  simp only [Option.isSome_iff_exists, decodeCommand_eq_some_iff, decodeOpcode_eq_some_iff,
    exists_and_left, exists_opcodeOf_iff, WellFormed.commandWord, Bool.and_eq_true, beq_iff_eq,
    decide_eq_true_eq, and_assoc]

/-- The illegal words of 30_encoding.md R75. -/
theorem decodeCommand_eq_none_iff {w : Word} :
    decodeCommand w = none ↔ w = 0 ∨ 0x0B < w.toNat := by
  rw [← Option.not_isSome_iff_eq_none, decodeCommand_isSome_iff, commandWord_iff,
    ← BitVec.toNat_inj]
  change _ ↔ w.toNat = 0 ∨ _
  omega

/-! ## The obligations -/

/-- Settles O2: both directions field by field, and the legality check against the decoder. -/
theorem decodeInvertsEncode : Obligations.DecodeInvertsEncode :=
  ⟨fun _ _ => decodeCommand_eq_some_iff_encode,
    fun _ => Bool.eq_iff_iff.mpr decodeCommand_isSome_iff⟩

/-- Settles O1: each command's word is its encoding, and the other words are the illegal ones. -/
theorem decodeFollowsOpcodeMap : Obligations.DecodeFollowsOpcodeMap := by
  intro w
  have hmatch (i : Instr) : decodeCommand w = some i ↔ w = encode i :=
    decodeCommand_eq_some_iff_encode
  exact ⟨hmatch .vlqEnc, hmatch .vlqDec, hmatch .padsize, hmatch .build, hmatch .buildz,
    hmatch .parse, hmatch .reseal, hmatch .mix, hmatch .encode, hmatch .decode, hmatch .decodeView,
    decodeCommand_eq_none_iff⟩

/-- Settles O3: the words are closed, and the decoder evaluates on them. -/
theorem sampleWordsDecode : Obligations.SampleWordsDecode := by
  unfold Obligations.SampleWordsDecode
  decide

end Sys2Proof

/-! # The VLQ: settling the family of 40_vlq.md

In layers: the sizes `L` and `Lv`, given by bounds that are powers of 128; a value put together from
7-bit groups; the encoder's loop; one turn of the decoder's loop; the decoder against the encoder, where
both are followed from any byte on; and how the two commands complete. -/

namespace Sys2Proof.Machine

/-! ## The sizes -/

@[simp] theorem prefixSize_zero : prefixSize 0 = 0 := rfl

/-- `L(n)` is the least number of 7-bit groups that hold `n` (40_vlq.md R100). -/
theorem prefixSize_le_iff {n k : Nat} : prefixSize n ≤ k ↔ n < 2 ^ (7 * k) := by
  unfold prefixSize
  split
  · next h => simp [h]
  · next h => rw [← Nat.log2_lt h]; omega

theorem prefixSize_eq_of_bounds {n k : Nat} (hk : 1 ≤ k) (hlow : 2 ^ (7 * (k - 1)) ≤ n)
    (hhigh : n < 2 ^ (7 * k)) : prefixSize n = k := by
  have hle : prefixSize n ≤ k := prefixSize_le_iff.mpr hhigh
  have hgt : ¬ prefixSize n ≤ k - 1 := fun h => absurd (prefixSize_le_iff.mp h) (not_lt.mpr hlow)
  omega

/-- Dropping the lowest group of a number takes one group off. -/
theorem prefixSize_eq_succ {n : Nat} (hn : n ≠ 0) : prefixSize n = prefixSize (n / 128) + 1 := by
  refine eq_of_forall_ge_iff fun k => ?_
  cases k with
  | zero =>
    have hpos : ¬ prefixSize n ≤ 0 := fun h => absurd (prefixSize_le_iff.mp h) (by simpa using hn)
    omega
  | succ k =>
    rw [Nat.add_le_add_iff_right, prefixSize_le_iff, prefixSize_le_iff,
      Nat.div_lt_iff_lt_mul (by decide)]
    exact Iff.of_eq (congrArg (n < ·) (pow_add 2 (7 * k) 7))

theorem vlqLength_pos (v : Nat) : 1 ≤ vlqLength v := Nat.le_max_left ..

theorem vlqLength_le_iff {v k : Nat} (hk : 1 ≤ k) : vlqLength v ≤ k ↔ v < 2 ^ (7 * k) := by
  rw [vlqLength, max_le_iff, prefixSize_le_iff, and_iff_right hk]

theorem vlqLength_of_lt {v : Nat} (h : v < 128) : vlqLength v = 1 :=
  le_antisymm ((vlqLength_le_iff le_rfl).mpr h) (vlqLength_pos v)

theorem vlqLength_of_ge {v : Nat} (h : 128 ≤ v) : vlqLength v = vlqLength (v / 128) + 1 := by
  have hv : prefixSize v = prefixSize (v / 128) + 1 := prefixSize_eq_succ (by omega)
  have hq : prefixSize (v / 128) = prefixSize (v / 128 / 128) + 1 := prefixSize_eq_succ (by omega)
  unfold vlqLength
  omega

/-- A register's value takes at most 10 groups (40_vlq.md R101). -/
theorem vlqLength_le_ten {v : Nat} (h : v < 2 ^ 64) : vlqLength v ≤ 10 :=
  (vlqLength_le_iff (by decide)).mpr (h.trans (by decide))

/-! ## Groups -/

/-- A value splits into its lowest group and the groups above it. -/
theorem groups_eq (u j : Nat) :
    u * 2 ^ (7 * j) = u % 128 * 2 ^ (7 * j) + u / 128 * 2 ^ (7 * (j + 1)) := by
  have hsplit := Nat.mod_add_div u 128
  have hpow : 2 ^ (7 * (j + 1)) = 128 * 2 ^ (7 * j) := by rw [Nat.mul_add, Nat.pow_add, Nat.mul_comm]
  rw [hpow, ← Nat.mul_assoc, ← Nat.add_mul, Nat.mul_comm (u / 128), hsplit]

/-- A value below `128^j` stays below `128^(j+1)` when group `j` is put above it. -/
theorem add_group_lt {j w g : Nat} (hw : w < 2 ^ (7 * j)) (hg : g < 128) :
    w + g * 2 ^ (7 * j) < 2 ^ (7 * (j + 1)) := by
  have hgroup : g * 2 ^ (7 * j) ≤ 127 * 2 ^ (7 * j) := Nat.mul_le_mul_right _ (by omega)
  have hpow : 2 ^ (7 * (j + 1)) = 2 ^ (7 * j) * 128 := Nat.pow_add 2 (7 * j) 7
  omega

/-- What does not overflow fits the 64 bits (40_vlq.md R103). -/
theorem add_group_lt_word {j w g : Nat} (hj : j ≤ 9) (hw : w < 2 ^ (7 * j)) (hg : g < 128)
    (hfits : ¬ (j = 9 ∧ 1 < g)) : w + g * 2 ^ (7 * j) < 2 ^ 64 := by
  rcases Nat.lt_or_ge j 9 with hlt | hge
  · exact (add_group_lt hw hg).trans
      (Nat.pow_lt_pow_right (by decide) (show 7 * (j + 1) < 64 by omega))
  · obtain rfl : j = 9 := by omega
    norm_num at hw ⊢
    omega

/-! ## The encoder's loop -/

theorem vlqEncodeLoop_of_lt (groups : Nat) {v : Nat} (h : v < 128) :
    vlqEncodeLoop (groups + 1) v = [u8 v] := by
  rw [vlqEncodeLoop, if_neg (by omega), Nat.mod_eq_of_lt h]

theorem vlqEncodeLoop_of_ge (groups : Nat) {v : Nat} (h : 128 ≤ v) :
    vlqEncodeLoop (groups + 1) v = u8 (128 + v % 128) :: vlqEncodeLoop groups (v / 128) := by
  rw [vlqEncodeLoop, if_pos (by omega)]

theorem u8_toNat {n : Nat} (h : n < 256) : (u8 n).toNat = n := by
  rw [u8, BitVec.toNat_ofNat]
  exact Nat.mod_eq_of_lt h

theorem u8_toNat_eq (b : Byte) : u8 b.toNat = b := BitVec.eq_of_toNat_eq (u8_toNat b.isLt)

/-- A byte with CONT set begins the encoding of each number whose lowest group it holds, if there are
groups above that one. -/
theorem vlqEncodeLoop_of_cont (groups : Nat) {b : Byte} (hb : 128 ≤ b.toNat) {u : Nat}
    (hmod : u % 128 = b.toNat % 128) (hdiv : u / 128 ≠ 0) :
    vlqEncodeLoop (groups + 1) u = b :: vlqEncodeLoop groups (u / 128) := by
  have hbyte : 128 + u % 128 = b.toNat := by
    have hlt := b.isLt
    omega
  rw [vlqEncodeLoop_of_ge groups (by omega), hbyte, u8_toNat_eq]

theorem vlqEncodeLoop_length {groups v : Nat} (h : vlqLength v ≤ groups) :
    (vlqEncodeLoop groups v).length = vlqLength v := by
  induction groups generalizing v with
  | zero => exact absurd (vlqLength_pos v) (by omega)
  | succ groups ih =>
    rcases Nat.lt_or_ge v 128 with hv | hv
    · rw [vlqEncodeLoop_of_lt groups hv, vlqLength_of_lt hv]
      rfl
    · have hlen := vlqLength_of_ge hv
      rw [vlqEncodeLoop_of_ge groups hv, List.length_cons, ih (by omega), hlen]

theorem vlqEncode_length {v : Nat} (h : v < 2 ^ 64) : (vlqEncode v).length = vlqLength v :=
  vlqEncodeLoop_length (vlqLength_le_ten h)

/-- Byte `j` of an encoding: group `j` of the value, and CONT on all bytes but the last
(40_vlq.md R102). -/
theorem vlqEncodeLoop_getD {groups v j : Nat} (h : vlqLength v ≤ groups) (hj : j < vlqLength v) :
    ((vlqEncodeLoop groups v).getD j 0).toNat =
      v / 2 ^ (7 * j) % 128 + if j + 1 = vlqLength v then 0 else 128 := by
  induction groups generalizing v j with
  | zero => omega
  | succ groups ih =>
    rcases Nat.lt_or_ge v 128 with hv | hv
    · have hlen := vlqLength_of_lt hv
      obtain rfl : j = 0 := by omega
      rw [vlqEncodeLoop_of_lt groups hv, hlen]
      simp [u8_toNat (show v < 256 by omega), Nat.mod_eq_of_lt hv]
    · have hlen := vlqLength_of_ge hv
      have hpos := vlqLength_pos (v / 128)
      rw [vlqEncodeLoop_of_ge groups hv]
      cases j with
      | zero =>
        rw [List.getD_cons_zero, u8_toNat (by omega), if_neg (by omega)]
        simp [Nat.add_comm]
      | succ j =>
        have hshift : v / 2 ^ (7 * (j + 1)) = v / 128 / 2 ^ (7 * j) := by
          rw [Nat.div_div_eq_div_mul, Nat.mul_add, Nat.pow_add, Nat.mul_comm]
        rw [List.getD_cons_succ, ih (by omega) (by omega), hshift, hlen]
        simp

/-! ## One turn of the decoder's loop -/

/-- CONT is bit 7 of a byte (30_encoding.md R76). -/
theorem cont_iff {b : Byte} : b.getLsbD 7 = true ↔ 128 ≤ b.toNat := by
  have hmsb := BitVec.msb_eq_decide b
  rw [BitVec.msb_eq_getLsbD_last] at hmsb
  rw [hmsb, decide_eq_true_iff]

/-- GROUP is bits 6 to 0 of a byte (30_encoding.md R76). -/
theorem group_toNat (b : Byte) : (b.extractLsb' 0 7).toNat = b.toNat % 128 := by
  rw [BitVec.extractLsb'_toNat, Nat.shiftRight_zero]

theorem vlqDecodeLoop_of_cont (left j w : Nat) {b : Byte} (rest : Bytes) (hb : 128 ≤ b.toNat) :
    vlqDecodeLoop (left + 1) j w (b :: rest) =
      vlqDecodeLoop left (j + 1) (w + b.toNat % 128 * 2 ^ (7 * j)) rest := by
  rw [vlqDecodeLoop, if_pos (cont_iff.mpr hb), group_toNat]

/-- The last byte: it overflows, it is overlong, or it ends the value (40_vlq.md R103). -/
theorem vlqDecodeLoop_of_last (left j w : Nat) {b : Byte} (rest : Bytes) (hb : b.toNat < 128) :
    vlqDecodeLoop (left + 1) j w (b :: rest) =
      if j = 9 ∧ 1 < b.toNat then .bad 2 9
      else if 1 ≤ j ∧ b.toNat = 0 then .bad 3 j
      else .ok (w + b.toNat * 2 ^ (7 * j)) (j + 1) := by
  rw [vlqDecodeLoop, if_neg (mt cont_iff.mp (by omega)), group_toNat, Nat.mod_eq_of_lt hb]
  simp only [← BitVec.toNat_inj]
  rfl

theorem vlqDecodeLoop_last_eq_ok {left j w : Nat} {b : Byte} {rest : Bytes} {v k : Nat}
    (hb : b.toNat < 128) (h : vlqDecodeLoop (left + 1) j w (b :: rest) = .ok v k) :
    ¬ (j = 9 ∧ 1 < b.toNat) ∧ ¬ (1 ≤ j ∧ b.toNat = 0) ∧ v = w + b.toNat * 2 ^ (7 * j) ∧ k = j + 1 := by
  rw [vlqDecodeLoop_of_last left j w rest hb] at h
  split at h
  · cases h
  · next hfits =>
    split at h
    · cases h
    · next hcanonical =>
      obtain ⟨rfl, rfl⟩ := VlqResult.ok.inj h
      exact ⟨hfits, hcanonical, rfl, rfl⟩

/-! ## The decoder against the encoder -/

/-- `u` can be the value from group `j` on of an accepted encoding: it is not 0 unless it is the whole
value, and it fits the 64 bits (40_vlq.md R104). -/
def AcceptedFrom (j u : Nat) : Prop := (j = 0 ∨ u ≠ 0) ∧ u * 2 ^ (7 * j) < 2 ^ 64

namespace AcceptedFrom
variable {j u : Nat}

theorem of_lt (h : u < 2 ^ 64) : AcceptedFrom 0 u := ⟨.inl rfl, by simpa using h⟩

theorem div (h : AcceptedFrom j u) (hu : 128 ≤ u) : AcceptedFrom (j + 1) (u / 128) :=
  ⟨.inr (by omega), lt_of_le_of_lt (by rw [groups_eq u j]; exact Nat.le_add_left ..) h.2⟩

/-- The tenth group has one bit. -/
theorem le_one (h : AcceptedFrom 9 u) : u ≤ 1 := by
  have hfit := h.2
  norm_num at hfit
  omega

end AcceptedFrom

/-- From any byte on, the decoder returns the value whose encoding stands there, whatever follows. -/
theorem vlqDecodeLoop_encodeLoop {left j : Nat} (hj : left + j = 10) (w : Nat) {u : Nat}
    (hlen : vlqLength u ≤ left) (hu : AcceptedFrom j u) (t : Bytes) :
    vlqDecodeLoop left j w (vlqEncodeLoop left u ++ t) =
      .ok (w + u * 2 ^ (7 * j)) (j + vlqLength u) := by
  induction left generalizing j w u with
  | zero => exact absurd (vlqLength_pos u) (by omega)
  | succ left ih =>
    rcases Nat.lt_or_ge u 128 with hlt | hge
    · have hbyte : (u8 u).toNat = u := u8_toNat (by omega)
      have hfits : ¬ (j = 9 ∧ 1 < u) := by
        rintro ⟨rfl, hlarge⟩
        exact absurd hu.le_one (by omega)
      have hcanonical : ¬ (1 ≤ j ∧ u = 0) := by
        have hne := hu.1
        omega
      rw [vlqEncodeLoop_of_lt left hlt, List.singleton_append, vlqLength_of_lt hlt,
        vlqDecodeLoop_of_last left j w t (by omega), hbyte, if_neg hfits, if_neg hcanonical]
    · have hbyte : (u8 (128 + u % 128)).toNat = 128 + u % 128 := u8_toNat (by omega)
      have hlen' := vlqLength_of_ge hge
      have hval : w + (128 + u % 128) % 128 * 2 ^ (7 * j) + u / 128 * 2 ^ (7 * (j + 1)) =
          w + u * 2 ^ (7 * j) := by
        rw [groups_eq u j, Nat.add_mod_left, Nat.mod_mod, Nat.add_assoc]
      rw [vlqEncodeLoop_of_ge left hge, List.cons_append,
        vlqDecodeLoop_of_cont left j w _ (by omega), ih (by omega) _ (by omega) (hu.div hge), hbyte,
        hval, hlen', Nat.add_right_comm, Nat.add_assoc j]

/-- From any byte on, what the decoder accepts is the encoding of what it adds to the value so far. -/
theorem encodeLoop_prefix_of_vlqDecodeLoop {left j w : Nat} {s : Bytes} {v k : Nat}
    (hj : left + j = 10) (hw : w < 2 ^ (7 * j)) (h : vlqDecodeLoop left j w s = .ok v k) :
    ∃ u, (j = 0 ∨ u ≠ 0) ∧ v = w + u * 2 ^ (7 * j) ∧ v < 2 ^ 64 ∧ k = j + vlqLength u ∧
      vlqEncodeLoop left u <+: s := by
  induction left generalizing j w s with
  | zero => cases h
  | succ left ih =>
    cases s with
    | nil => cases h
    | cons b rest =>
      rcases Nat.lt_or_ge b.toNat 128 with hb | hb
      · obtain ⟨hfits, hcanonical, rfl, rfl⟩ := vlqDecodeLoop_last_eq_ok hb h
        have hpre : vlqEncodeLoop (left + 1) b.toNat <+: b :: rest := by
          rw [vlqEncodeLoop_of_lt left hb, u8_toNat_eq]
          exact ⟨rest, rfl⟩
        exact ⟨b.toNat, by omega, rfl, add_group_lt_word (by omega) hw hb hfits,
          by rw [vlqLength_of_lt hb], hpre⟩
      · rw [vlqDecodeLoop_of_cont left j w rest hb] at h
        have hw' := add_group_lt hw (Nat.mod_lt b.toNat (show 0 < 128 by decide))
        obtain ⟨q, hq, rfl, hv, rfl, hpre⟩ := ih (by omega) hw' h
        obtain ⟨u, hmod, rfl⟩ : ∃ u, u % 128 = b.toNat % 128 ∧ u / 128 = q :=
          ⟨b.toNat % 128 + 128 * q, by omega, by omega⟩
        have hdiv : u / 128 ≠ 0 := hq.resolve_left (Nat.succ_ne_zero j)
        refine ⟨u, by omega, ?_, hv, ?_, ?_⟩
        · rw [groups_eq u j, hmod, Nat.add_assoc]
        · rw [vlqLength_of_ge (show 128 ≤ u by omega)]
          omega
        · rw [vlqEncodeLoop_of_cont left hb hmod hdiv]
          exact List.cons_prefix_cons.mpr ⟨rfl, hpre⟩

/-- The errors of the decoder are those of 60_exceptions.md R205: subcodes 1 to 3, offsets up to 9. -/
theorem vlqDecodeLoop_bad_le {left j w : Nat} {s : Bytes} {sub off : Nat} (hj : left + j = 10)
    (h : vlqDecodeLoop left j w s = .bad sub off) : sub ≤ 3 ∧ off ≤ 9 := by
  induction left generalizing j w s with
  | zero =>
    obtain ⟨rfl, rfl⟩ := VlqResult.bad.inj h
    decide
  | succ left ih =>
    cases s with
    | nil =>
      obtain ⟨rfl, rfl⟩ := VlqResult.bad.inj h
      omega
    | cons b rest =>
      rcases Nat.lt_or_ge b.toNat 128 with hb | hb
      · rw [vlqDecodeLoop_of_last left j w rest hb] at h
        split at h
        · cases h; decide
        · split at h <;> cases h
          omega
      · rw [vlqDecodeLoop_of_cont left j w rest hb] at h
        exact ih (by omega) h

/-- What `VlqDecode` accepts is an encoding of a 64-bit value (40_vlq.md R104, R105). -/
theorem vlqDecode_eq_ok {s : Bytes} {v k : Nat} (h : vlqDecode s = .ok v k) :
    v < 2 ^ 64 ∧ k = vlqLength v ∧ vlqEncode v <+: s := by
  obtain ⟨u, -, hval, hv, hk, hpre⟩ := encodeLoop_prefix_of_vlqDecodeLoop rfl Nat.one_pos h
  obtain rfl : v = u := by simpa using hval
  exact ⟨hv, by simpa using hk, hpre⟩

/-- `VlqDecode` gives back what `VlqEncode` was given, whatever follows (40_vlq.md R105). -/
theorem vlqDecode_encode {v : Nat} (hv : v < 2 ^ 64) (t : Bytes) :
    vlqDecode (vlqEncode v ++ t) = .ok v (vlqLength v) := by
  have hloop := vlqDecodeLoop_encodeLoop (j := 0) rfl 0 (vlqLength_le_ten hv) (.of_lt hv) t
  simpa only [vlqDecode, vlqEncode, Nat.mul_zero, Nat.pow_zero, Nat.mul_one, Nat.zero_add] using hloop

/-! ## How the commands complete -/

/-- The exact numbers an error reports in EINFO0 to EINFO2 fit their registers; the saturated ones
always do (60_exceptions.md R200). -/
def ReportFits (e : CmdError) : Prop :=
  (errorReport e).2.1 < 2 ^ 64 ∧ (errorReport e).2.2.1 < 2 ^ 64 ∧ (errorReport e).2.2.2 < 2 ^ 64

theorem reportFits_range {sub size : Nat} (h : sub < 2 ^ 64) : ReportFits (.range sub size) :=
  ⟨h, lt_of_le_of_lt (Nat.min_le_right ..) (by decide), Nat.two_pow_pos 64⟩

theorem reportFits_badLengthField {sub off : Nat} (hsub : sub < 2 ^ 64) (hoff : off < 2 ^ 64) :
    ReportFits (.badLengthField sub off) := ⟨hsub, hoff, Nat.two_pow_pos 64⟩

theorem word_toNat {n : Nat} (h : n < 2 ^ 64) : (word n).toNat = n := by
  rw [word, BitVec.toNat_ofNat]
  exact Nat.mod_eq_of_lt h

theorem sat64_toNat (n : Nat) : (sat64 n).toNat = min n (2 ^ 64 - 1) := word_toNat (by omega)

/-- A command that raises an error before it changes any register has failed with it. -/
theorem Failed.raised {s u : State} (hc : KeepsControl s u) (hr : KeepsResults s u) {e : CmdError}
    (he : ReportFits e) : Failed e s (u.raised e) := by
  obtain ⟨h0, h1, h2⟩ := he
  have hcode : (errorCode e).toNat = (errorReport e).1 := by cases e <;> rfl
  have hne : (errorReport e).1 ≠ 0 := by
    have hpos := (errorCode_toNat e).1
    omega
  have herr : (u.raised e).err = decide ((errorReport e).1 ≠ 0) := by
    rw [State.raised_err_true, decide_eq_true hne]
  refine ⟨⟨rfl, rfl, hcode, herr, hc⟩, hr, ?_⟩
  cases e with
  | illegalCommand w => exact ⟨rfl, rfl, rfl⟩
  | range sub size => exact ⟨word_toNat h0, sat64_toNat size, rfl⟩
  | unexpectedPaddedLength n expected actual =>
    exact ⟨word_toNat h0, sat64_toNat expected, word_toNat h2⟩
  | badLengthField sub off => exact ⟨word_toNat h0, word_toNat h1, rfl⟩
  | notAligned length => exact ⟨word_toNat h0, rfl, rfl⟩
  | invalidChecksum off => exact ⟨word_toNat h0, rfl, rfl⟩

theorem Failed.raised_self (s : State) {e : CmdError} (he : ReportFits e) : Failed e s (s.raised e) :=
  .raised (by simp [KeepsControl]) (by simp [KeepsResults]) he

theorem SameBytes.raised (s : State) (e : CmdError) : SameBytes s (s.raised e) :=
  State.byteAt_congr rfl rfl

/-- A command that leaves the control state and the error information alone has succeeded. -/
theorem Succeeded.completed {s u : State} (hc : KeepsControl s u) (hi : KeepsInfo s u) :
    Succeeded s u.completed := ⟨⟨rfl, rfl, rfl, rfl, hc⟩, hi⟩

/-! ## The obligations -/

/-- Settles O26: each range is one of bounds by powers of 128, the last one inside the tenth. -/
theorem prefixSizeValues : Obligations.PrefixSizeValues := by
  refine ⟨prefixSize_zero, fun n k hk _ hlow hhigh => ?_, fun n hlow hhigh => ?_⟩
  · have hpos : 0 < 2 ^ (7 * k) := Nat.two_pow_pos _
    exact prefixSize_eq_of_bounds hk hlow (by omega)
  · exact prefixSize_eq_of_bounds (by decide) hlow (by omega)

/-- Settles O27: the encoder's loop has the turns it needs, and gives the bytes one by one. -/
theorem vlqEncodeLayout : Obligations.VlqEncodeLayout := by
  intro v hv
  have hlen := vlqEncode_length hv
  refine ⟨hlen, hlen ▸ vlqLength_pos v, vlqEncode_length_le v, fun j hj => ?_⟩
  rw [hlen] at hj ⊢
  exact vlqEncodeLoop_getD (vlqLength_le_ten hv) hj

/-- Settles O28: the decoder's loop followed beside the encoder's, from byte 0. -/
theorem vlqRoundTrip : Obligations.VlqRoundTrip := by
  refine ⟨fun v t hv => vlqDecode_encode hv t, fun s v k h => ?_⟩
  obtain ⟨hv, hk, hpre⟩ := vlqDecode_eq_ok h
  refine ⟨hv, hk, ?_⟩
  rw [List.prefix_iff_eq_take.mp hpre, vlqEncode_length hv, hk]

/-- Settles O30: RLEN counts the bytes that were stored at offset 0. -/
theorem vlqEncFollowsItsRule : Obligations.VlqEncFollowsItsRule := by
  refine ⟨decodeCommand_eq_some_iff_encode.mpr rfl, fun s => ⟨_, execVlqEnc_spec s, ?_⟩⟩
  have hlen := vlqEncode_length s.value.isLt
  have hle := vlqEncode_length_le s.value.toNat
  have hrlen : (word (vlqEncode s.value.toNat).length).toNat = (vlqEncode s.value.toNat).length :=
    word_toNat (by omega)
  simp only [State.completed_rlen, State.setRlen_rlen, hrlen]
  have hbytes : SameBytes (s.memWrite 0 (vlqEncode s.value.toNat))
      ((s.memWrite 0 (vlqEncode s.value.toNat)).setRlen
        (word (vlqEncode s.value.toNat).length)).completed := State.byteAt_congr rfl rfl
  refine ⟨.completed (by simp [KeepsControl]) (by simp [KeepsInfo]), hlen, ?_, fun i hi => ?_,
    rfl, rfl, rfl⟩
  · rw [State.memRead_congr hbytes, State.memRead_memWrite]
  · rw [hbytes i, State.byteAt_memWrite_outside s (.inr (by omega))]

/-- Settles O31: the three ends of the command, each of which rules out the premises of the other two. -/
theorem vlqDecFollowsItsRule : Obligations.VlqDecFollowsItsRule := by
  refine ⟨decodeCommand_eq_some_iff_encode.mpr rfl, fun s _ => ?_⟩
  obtain ⟨t, ht, ⟨hcap, rfl⟩ | ⟨sub, off, hcap, hd, rfl⟩ | ⟨v, k, hcap, hd, rfl⟩⟩ :=
    execVlqDec_cases s
  · exact ⟨fun _ => ⟨_, ht, .raised_self s (reportFits_range (by decide)), .raised s _⟩,
      fun _ _ hle => absurd hcap (not_lt.mpr hle), fun _ _ hle => absurd hcap (not_lt.mpr hle)⟩
  · refine ⟨fun hlt => absurd hcap (not_le.mpr hlt), fun sub' off' _ hd' => ?_,
      fun _ _ _ hd' => (nomatch hd.symm.trans hd')⟩
    obtain ⟨rfl, rfl⟩ := VlqResult.bad.inj (hd.symm.trans hd')
    obtain ⟨hsub, hoff⟩ := vlqDecodeLoop_bad_le rfl hd
    exact ⟨_, ht, .raised_self s (reportFits_badLengthField (by omega) (by omega)), .raised s _⟩
  · refine ⟨fun hlt => absurd hcap (not_le.mpr hlt), fun _ _ _ hd' => (nomatch hd.symm.trans hd'),
      fun v' k' _ hd' => ?_⟩
    obtain ⟨rfl, rfl⟩ := VlqResult.ok.inj (hd.symm.trans hd')
    obtain ⟨hv, rfl, -⟩ := vlqDecode_eq_ok hd
    have hk := vlqLength_le_ten hv
    exact ⟨_, ht, .completed (by simp [KeepsControl]) (by simp [KeepsInfo]), word_toNat hv,
      word_toNat (by omega), rfl, rfl, State.byteAt_congr rfl rfl⟩

end Sys2Proof.Machine

/-! # The framer: settling the family of 41_framer.md

In layers: the sizes `C` and `padded_size`; the parts of a frame; what `ParseFrame` accepts and what
it answers otherwise, with the header pinned down by the VLQ that the frame begins with; the built
frames as the accepted ones, where `Reseal` is the link; the CRC as an injective function of each
single byte; the checksum field rewritten in BUF; and how the five commands complete. -/

namespace Sys2Proof.Machine

/-! ## Sizes -/

theorem checksumSize_intCast (n : Nat) :
    (checksumSize n : Int) = 1 + (-(prefixSize n + n + 1 : Int)) % 3 := by
  unfold checksumSize
  omega

theorem checksumSize_bounds (n : Nat) : 1 ≤ checksumSize n ∧ checksumSize n ≤ 3 := by
  have h := checksumSize_intCast n
  omega

theorem paddedSize_eq (n : Nat) : paddedSize n = prefixSize n + n + checksumSize n := rfl

theorem paddedSize_mod_three (n : Nat) : paddedSize n % 3 = 0 := by
  have h := checksumSize_intCast n
  have hp := paddedSize_eq n
  omega

theorem prefixSize_pos {n : Nat} (hn : n ≠ 0) : 1 ≤ prefixSize n := by
  rw [prefixSize_eq_succ hn]
  exact Nat.le_add_left ..

theorem add_two_le_paddedSize (n : Nat) : n + 2 ≤ paddedSize n := by
  have hC := checksumSize_bounds n
  have hp := paddedSize_eq n
  by_cases h0 : n = 0
  · subst h0
    decide
  · have hL := prefixSize_pos h0
    omega

theorem prefixSize_le_ten {n : Nat} (hn : n < 2 ^ 64) : prefixSize n ≤ 10 :=
  prefixSize_le_iff.mpr (hn.trans (by decide))

/-- Only a payload size of 63 bits or more comes near the bound, and there `L(n)` is 10
(41_framer.md R124). -/
theorem paddedSize_le_word_iff {n : Nat} (hn : n < 2 ^ 64) :
    paddedSize n ≤ 2 ^ 64 - 1 ↔ n ≤ 2 ^ 64 - 12 := by
  have hmod := paddedSize_mod_three n
  have hC := checksumSize_bounds n
  have hp := paddedSize_eq n
  rcases Nat.lt_or_ge n (2 ^ 63) with hsmall | hlarge
  · have hL := prefixSize_le_ten hn
    omega
  · have hL : prefixSize n = 10 := prefixSize_eq_of_bounds (by decide) hlarge (hn.trans (by decide))
    omega

/-! ## The parts of a frame -/

/-- The length field of the frame of an `n`-byte payload (41_framer.md R126). -/
def framePrefix (n : Nat) : Bytes := (vlqEncode n).take (prefixSize n)

theorem buildFrame_eq (p : Bytes) :
    buildFrame p = framePrefix p.length ++ p ++ checksumField p (checksumSize p.length) := rfl

theorem framePrefix_length {n : Nat} (hn : n < 2 ^ 64) : (framePrefix n).length = prefixSize n := by
  rw [framePrefix, List.length_take, vlqEncode_length hn]
  exact Nat.min_eq_left (Nat.le_max_right ..)

theorem framePrefix_of_ne_zero {n : Nat} (hn : n < 2 ^ 64) (h0 : n ≠ 0) :
    framePrefix n = vlqEncode n := by
  refine List.take_of_length_le ?_
  rw [vlqEncode_length hn]
  exact max_le (prefixSize_pos h0) le_rfl

theorem framePrefix_prefix {n : Nat} {f : Bytes} (h : vlqEncode n <+: f) : framePrefix n <+: f :=
  (List.take_prefix _ _).trans h

theorem payloadOf_eq (f : Bytes) (l n : Nat) : payloadOf f l n = (f.drop l).take n := by
  rw [payloadOf, slice, Nat.add_sub_cancel_left]

theorem payloadOf_length_of_header {f : Bytes} {l n : Nat} (h : parseHeader f = .ok (l, n)) :
    (payloadOf f l n).length = n := by
  have hlen := parseHeader_ok_length h
  rw [payloadOf_eq, List.length_take, List.length_drop]
  omega

theorem payloadOf_append {a p : Bytes} (c : Bytes) {l n : Nat} (hl : a.length = l)
    (hn : p.length = n) : payloadOf (a ++ p ++ c) l n = p := by
  rw [payloadOf_eq, List.append_assoc, List.drop_left' hl, List.take_left' hn]

theorem payloadOf_buildFrame {p : Bytes} (hp : p.length < 2 ^ 64) :
    payloadOf (buildFrame p) (prefixSize p.length) p.length = p :=
  payloadOf_append _ (framePrefix_length hp) rfl

theorem buildFrame_length {p : Bytes} (hp : p.length < 2 ^ 64) :
    (buildFrame p).length = paddedSize p.length := by
  rw [buildFrame_eq, List.length_append, List.length_append, framePrefix_length hp,
    checksumField_length, paddedSize_eq]

theorem checksumField_getD (p : Bytes) {i k : Nat} (hi : i < k) :
    (checksumField p k).getD i 0 = crc8 p + u8 i := by
  simp [checksumField, List.getElem?_range hi]

theorem buildFrame_getD_checksum {p : Bytes} (hp : p.length < 2 ^ 64) {i : Nat}
    (hi : i < checksumSize p.length) :
    (buildFrame p).getD (prefixSize p.length + p.length + i) 0 = crc8 p + u8 i := by
  have hlen : (framePrefix p.length ++ p).length = prefixSize p.length + p.length := by
    rw [List.length_append, framePrefix_length hp]
  rw [buildFrame_eq, List.getD_append_right _ _ _ _ (by omega), hlen, Nat.add_sub_cancel_left,
    checksumField_getD p hi]

/-- A frame begins with the VLQ of its payload size. For the empty payload, whose frame has no
length field, the checksum byte 0 is that VLQ (41_framer.md R128). -/
theorem vlqEncode_prefix_buildFrame {p : Bytes} (hp : p.length < 2 ^ 64) :
    vlqEncode p.length <+: buildFrame p := by
  by_cases h0 : p = []
  · subst h0
    decide
  · rw [buildFrame_eq, framePrefix_of_ne_zero hp (by simpa using h0), List.append_assoc]
    exact List.prefix_append _ _

/-! ## What `ParseFrame` answers -/

section
variable {f : Bytes}

theorem parseHeader_of_notAligned (h : f.length % 3 ≠ 0) :
    parseHeader f = .error (.notAligned f.length) := if_pos h

theorem parseHeader_of_bad {sub off : Nat} (h : f.length % 3 = 0)
    (hd : vlqDecode f = .bad sub off) : parseHeader f = .error (.badLengthField sub off) := by
  rw [parseHeader, if_neg (not_not.mpr h), hd]

theorem parseHeader_of_unexpected {n k : Nat} (h : f.length % 3 = 0) (hd : vlqDecode f = .ok n k)
    (hn : paddedSize n ≠ f.length) :
    parseHeader f = .error (.unexpectedPaddedLength n (paddedSize n) f.length) := by
  rw [parseHeader, if_neg (not_not.mpr h), hd]
  exact if_pos hn

/-- The errors of steps 1 to 3 (41_framer.md R130, R131). -/
theorem parseHeader_eq_error {e : CmdError} (h : parseHeader f = .error e) :
    e = .notAligned f.length ∨
      (∃ sub off, vlqDecode f = .bad sub off ∧ e = .badLengthField sub off) ∨
      ∃ n k, vlqDecode f = .ok n k ∧ e = .unexpectedPaddedLength n (paddedSize n) f.length := by
  by_cases h3 : f.length % 3 = 0
  · cases hd : vlqDecode f with
    | bad sub off =>
      exact .inr (.inl ⟨sub, off, rfl, Except.error.inj (h.symm.trans (parseHeader_of_bad h3 hd))⟩)
    | ok n k =>
      by_cases hn : paddedSize n = f.length
      · cases h.symm.trans (parseHeader_eq_ok_iff.mpr ⟨h3, ⟨k, hd⟩, hn, rfl⟩)
      · exact .inr (.inr ⟨n, k, rfl,
          Except.error.inj (h.symm.trans (parseHeader_of_unexpected h3 hd hn))⟩)
  · exact .inl (Except.error.inj (h.symm.trans (parseHeader_of_notAligned h3)))

theorem parseHeader_ne_invalidChecksum {e : CmdError} (h : parseHeader f = .error e) (off : Nat) :
    e ≠ .invalidChecksum off := by
  rcases parseHeader_eq_error h with rfl | ⟨_, _, -, rfl⟩ | ⟨_, _, -, rfl⟩ <;> nofun

/-- Steps 1 to 3 accept the strings that have the length of a frame and begin with the VLQ of its
payload size. -/
theorem parseHeader_eq_ok_iff_prefix {l n : Nat} :
    parseHeader f = .ok (l, n) ↔
      n < 2 ^ 64 ∧ vlqEncode n <+: f ∧ f.length = paddedSize n ∧ l = prefixSize n := by
  rw [parseHeader_eq_ok_iff]
  constructor
  · rintro ⟨-, ⟨k, hd⟩, hlen, hl⟩
    obtain ⟨hn, -, hpre⟩ := vlqDecode_eq_ok hd
    exact ⟨hn, hpre, hlen.symm, hl⟩
  · rintro ⟨hn, ⟨t, rfl⟩, hlen, hl⟩
    exact ⟨hlen ▸ paddedSize_mod_three n, ⟨_, vlqDecode_encode hn t⟩, hlen.symm, hl⟩

/-- Byte `i` of the checksum field is the expected one (41_framer.md R132). -/
def ChecksumByteOk (f : Bytes) (l n i : Nat) : Prop :=
  f.getD (l + n + i) 0 = crc8 (payloadOf f l n) + u8 i

theorem firstMismatch_eq_none_iff {l n : Nat} :
    firstMismatch f l n = none ↔ ∀ i < checksumSize n, ChecksumByteOk f l n i := by
  simp [firstMismatch, ChecksumByteOk]

theorem firstMismatch_eq_some_iff {l n i : Nat} :
    firstMismatch f l n = some i ↔
      ¬ ChecksumByteOk f l n i ∧ i < checksumSize n ∧ ∀ j < i, ChecksumByteOk f l n j := by
  simp [firstMismatch, ChecksumByteOk, List.find?_range_eq_some]

theorem parseFrame_of_header_error {e : CmdError} (h : parseHeader f = .error e) :
    parseFrame f = .error e := by
  rw [parseFrame, h]

theorem parseFrame_of_mismatch {l n i : Nat} (h : parseHeader f = .ok (l, n))
    (hm : firstMismatch f l n = some i) : parseFrame f = .error (.invalidChecksum (l + n + i)) := by
  simp only [parseFrame, h, hm]

/-- Past the header, what is left is to accept, or to report the first wrong checksum byte. -/
theorem parseFrame_of_header_ok {l n : Nat} (h : parseHeader f = .ok (l, n)) :
    parseFrame f = .ok (l, n) ∨
      ∃ i < checksumSize n, parseFrame f = .error (.invalidChecksum (l + n + i)) := by
  cases hm : firstMismatch f l n with
  | none => exact .inl (parseFrame_eq_ok_iff.mpr ⟨h, hm⟩)
  | some i =>
    obtain ⟨-, hi, -⟩ := firstMismatch_eq_some_iff.mp hm
    exact .inr ⟨i, hi, parseFrame_of_mismatch h hm⟩

/-- The errors of `ParseFrame` (41_framer.md R129 to R132). -/
theorem parseFrame_eq_error {e : CmdError} (h : parseFrame f = .error e) :
    parseHeader f = .error e ∨ ∃ off < f.length, e = .invalidChecksum off := by
  cases hh : parseHeader f with
  | error e' => exact .inl ((parseFrame_of_header_error hh).symm.trans h)
  | ok ln =>
    have hlen := parseHeader_ok_length hh
    rcases parseFrame_of_header_ok hh with hok | ⟨i, hi, herr⟩
    · cases hok.symm.trans h
    · exact .inr ⟨_, by omega, Except.error.inj (h.symm.trans herr)⟩

end

/-! ## Built frames and accepted frames -/

/-- Resealing what passes the header builds the frame of its payload region (41_framer.md R136): the
header leaves no choice for the bytes before it. -/
theorem reseal_eq_buildFrame {f : Bytes} {l n : Nat} (h : parseHeader f = .ok (l, n)) :
    reseal f l n = buildFrame (payloadOf f l n) := by
  have hpay := payloadOf_length_of_header h
  obtain ⟨hn, hpre, -, rfl⟩ := parseHeader_eq_ok_iff_prefix.mp h
  have hprefix : f.take (prefixSize n) = framePrefix n := by
    rw [List.prefix_iff_eq_take.mp (framePrefix_prefix hpre), framePrefix_length hn]
  rw [reseal, buildFrame_eq, hpay, List.take_add, hprefix, payloadOf_eq]

/-- With the checksum bytes as expected, resealing changes nothing. -/
theorem reseal_eq_self {f : Bytes} {l n : Nat} (h : parseFrame f = .ok (l, n)) :
    reseal f l n = f := by
  obtain ⟨hheader, hmatch⟩ := parseFrame_eq_ok_iff.mp h
  have hlen := parseHeader_ok_length hheader
  have hfield : checksumField (payloadOf f l n) (checksumSize n) = f.drop (l + n) := by
    refine List.ext_getElem (by simp; omega) fun i hi hi' => ?_
    rw [checksumField_length] at hi
    have hbyte := firstMismatch_eq_none_iff.mp hmatch i hi
    rw [ChecksumByteOk, List.getD_eq_getElem _ _ (by omega)] at hbyte
    rw [List.getElem_drop, hbyte, ← checksumField_getD _ hi, List.getD_eq_getElem]
  rw [reseal, hfield, List.take_append_drop]

/-- What `ParseFrame` accepts is the built frame of the payload it returns. -/
theorem buildFrame_of_parseFrame_ok {f : Bytes} {l n : Nat} (h : parseFrame f = .ok (l, n)) :
    buildFrame (payloadOf f l n) = f := by
  rw [← reseal_eq_buildFrame (parseFrame_eq_ok_iff.mp h).1, reseal_eq_self h]

theorem parseHeader_buildFrame {p : Bytes} (hp : p.length < 2 ^ 64) :
    parseHeader (buildFrame p) = .ok (prefixSize p.length, p.length) :=
  parseHeader_eq_ok_iff_prefix.mpr ⟨hp, vlqEncode_prefix_buildFrame hp, buildFrame_length hp, rfl⟩

/-- Every built frame is valid (41_framer.md R134). -/
theorem parseFrame_buildFrame {p : Bytes} (hp : p.length < 2 ^ 64) :
    parseFrame (buildFrame p) = .ok (prefixSize p.length, p.length) := by
  refine parseFrame_eq_ok_iff.mpr ⟨parseHeader_buildFrame hp, ?_⟩
  refine firstMismatch_eq_none_iff.mpr fun i hi => ?_
  rw [ChecksumByteOk, payloadOf_buildFrame hp, buildFrame_getD_checksum hp hi]

/-- A resealed frame is valid (41_framer.md R136). -/
theorem parseFrame_reseal {f : Bytes} {l n : Nat} (h : parseHeader f = .ok (l, n)) :
    parseFrame (reseal f l n) = .ok (l, n) := by
  have hpay := payloadOf_length_of_header h
  obtain ⟨hn, -, -, hl⟩ := parseHeader_eq_ok_iff_prefix.mp h
  rw [reseal_eq_buildFrame h, parseFrame_buildFrame (hpay.symm ▸ hn), hpay, hl]

/-! ## The CRC tells single-byte changes apart -/

/-- The shift moves bit 7 into bit 0, where the polynomial `0x1D` has a 1. -/
theorem crcShift_bit_zero (c : Byte) : (crcShift c).getLsbD 0 = c.getLsbD 7 := by
  unfold crcShift
  cases h : c.getLsbD 7 <;> simp

theorem shiftLeft_inj_of_bit_seven {c d : Byte} (h7 : c.getLsbD 7 = d.getLsbD 7)
    (h : c <<< 1 = d <<< 1) : c = d := by
  refine BitVec.eq_of_getLsbD_eq fun i hi => ?_
  by_cases hi7 : i = 7
  · exact hi7 ▸ h7
  · have hbit := congrArg (·.getLsbD (i + 1)) h
    simpa [hi, show i + 1 < 8 by omega] using hbit

/-- No step of the CRC forgets anything: bit 0 of the result tells the bit that was shifted out. -/
theorem crcShift_injective : Function.Injective crcShift := by
  intro c d h
  have h7 : c.getLsbD 7 = d.getLsbD 7 := by rw [← crcShift_bit_zero, h, crcShift_bit_zero]
  refine shiftLeft_inj_of_bit_seven h7 ?_
  unfold crcShift at h
  rw [h7] at h
  split at h
  · exact (BitVec.xor_left_inj _).mp h
  · exact h

theorem crcByte_eq_iff {c c' b b' : Byte} : crcByte c b = crcByte c' b' ↔ c ^^^ b = c' ^^^ b' :=
  (crcShift_injective.iterate 8).eq_iff

theorem foldl_crcByte_injective (p : Bytes) : Function.Injective fun c => p.foldl crcByte c := by
  induction p with
  | nil => exact fun _ _ h => h
  | cons b p ih => exact fun c c' h => (BitVec.xor_left_inj b).mp (crcByte_eq_iff.mp (ih h))

/-- The CRC tells two strings that differ in one byte apart (41_framer.md R135). -/
theorem byte_eq_of_crc8_eq {a d : Bytes} {b b' : Byte}
    (h : crc8 (a ++ b :: d) = crc8 (a ++ b' :: d)) : b = b' := by
  simp only [crc8, List.foldl_append, List.foldl_cons, BitVec.xor_left_inj] at h
  exact (BitVec.xor_right_inj _).mp (crcByte_eq_iff.mp (foldl_crcByte_injective d h))

theorem set_eq_self_of_crc8_eq {p : Bytes} {j : Nat} {b : Byte} (h : crc8 (p.set j b) = crc8 p) :
    p.set j b = p := by
  by_cases hj : j < p.length
  · have hset : p.set j b = p.take j ++ b :: p.drop (j + 1) := by
      rw [List.set_eq_take_append_cons_drop, if_pos hj]
    have hp : p = p.take j ++ p[j] :: p.drop (j + 1) := by simp
    have hb : b = p[j] := byte_eq_of_crc8_eq (by rw [← hset, ← hp, h])
    rw [hb, List.set_getElem_self]
  · exact List.set_eq_of_length_le (by omega)

theorem crc8_eq_of_checksumField_eq {p q : Bytes} {k : Nat} (hk : 1 ≤ k)
    (h : checksumField p k = checksumField q k) : crc8 p = crc8 q := by
  have hbyte := congrArg (·.getD 0 0) h
  simpa only [checksumField_getD _ hk, BitVec.add_left_inj] using hbyte

/-! ## Single-byte changes of a built frame -/

/-- A byte behind the length field cannot be changed so that the result is the built frame of
another payload of the same size: a change of the payload shows in the CRC, and a change of the
checksum field leaves the payload. -/
theorem payload_eq_of_buildFrame_eq_set {p q : Bytes} {i : Nat} {b : Byte} (hp : p.length < 2 ^ 64)
    (hq : q.length = p.length) (hi : prefixSize p.length ≤ i)
    (h : buildFrame q = (buildFrame p).set i b) : q = p := by
  have hlen := framePrefix_length hp
  have hC := (checksumSize_bounds p.length).1
  rw [buildFrame_eq, buildFrame_eq, hq, List.append_assoc, List.append_assoc,
    List.set_append_right _ _ (by omega)] at h
  have htail := List.append_cancel_left h
  rw [List.set_append] at htail
  split at htail
  · obtain ⟨hpay, hfield⟩ := List.append_inj htail (by simpa using hq)
    have hcrc := crc8_eq_of_checksumField_eq hC hfield
    rw [hpay] at hcrc ⊢
    exact set_eq_self_of_crc8_eq hcrc
  · exact List.append_inj_left htail hq

/-- A changed byte behind the leading VLQ of a built frame leaves the header valid, so the checksum
reports it. -/
theorem parseFrame_set_eq_invalidChecksum {p : Bytes} {i : Nat} {b : Byte} (hp : p.length < 2 ^ 64)
    (hi : vlqLength p.length ≤ i) (hlt : i < paddedSize p.length)
    (hb : b ≠ (buildFrame p).getD i 0) :
    ∃ off, parseFrame ((buildFrame p).set i b) = .error (.invalidChecksum off) := by
  have hheader : parseHeader ((buildFrame p).set i b) = .ok (prefixSize p.length, p.length) := by
    refine parseHeader_eq_ok_iff_prefix.mpr ⟨hp, ?_, by simp [buildFrame_length hp], rfl⟩
    obtain ⟨t, ht⟩ := vlqEncode_prefix_buildFrame hp
    rw [← ht, List.set_append_right _ _ (by rwa [vlqEncode_length hp])]
    exact List.prefix_append _ _
  rcases parseFrame_of_header_ok hheader with hok | ⟨j, -, herr⟩
  · have hq := payloadOf_length_of_header hheader
    have hbuilt := buildFrame_of_parseFrame_ok hok
    have hpay := payload_eq_of_buildFrame_eq_set hp hq ((Nat.le_max_right ..).trans hi) hbuilt
    rw [hpay] at hbuilt
    have hset : ((buildFrame p).set i b).getD i 0 = b := by
      simp [buildFrame_length hp, hlt]
    exact absurd (hset.symm.trans (congrArg (·.getD i 0) hbuilt.symm)) hb
  · exact ⟨_, herr⟩

/-- In the empty frame byte 0 is the leading VLQ too: with bit `k` flipped it is read as the VLQ of
`2^k`, for `k = 7` with the byte behind it, and a payload of that size has a longer frame
unless `k = 0`. -/
theorem parseFrame_empty_flip_byte_zero : ∀ k < 8,
    parseFrame ((buildFrame []).set 0 ((buildFrame []).getD 0 0 ^^^ BitVec.twoPow 8 k)) =
      if k = 0 then .error (.invalidChecksum 2)
      else .error (.unexpectedPaddedLength (2 ^ k) (paddedSize (2 ^ k)) 3) := by
  decide

theorem xor_twoPow_ne_self (b : Byte) {k : Nat} (hk : k < 8) : b ^^^ BitVec.twoPow 8 k ≠ b := by
  intro h
  have hbit := congrArg (·.getLsbD k) h
  simp [hk] at hbit

/-! ## The checksum field in BUF -/

theorem State.payloadOf_memRead (s : State) {k l n : Nat} (h : l + n ≤ k) :
    payloadOf (s.memRead 0 k) l n = s.memRead l n := by
  rw [payloadOf_eq]
  refine List.ext_getElem (by simp; omega) fun i _ _ => ?_
  rw [List.getElem_take, List.getElem_drop, State.memRead_getElem, State.memRead_getElem,
    Nat.zero_add]

/-- Reading from 0 to the end of what was written. -/
theorem State.memRead_zero_memWrite (s : State) (a : Nat) (bs : Bytes) :
    (s.memWrite a bs).memRead 0 (a + bs.length) = s.memRead 0 a ++ bs := by
  refine List.ext_getElem (by simp) fun i hi _ => ?_
  rw [State.memRead_length] at hi
  rw [State.memRead_getElem, State.byteAt_memWrite, Nat.zero_add, List.getElem_append]
  by_cases ha : i < a
  · simp [ha, State.memRead_getElem]
  · have hlt : i - a < bs.length := by omega
    simp [ha, hi, not_lt.mp ha, hlt]

theorem State.memRead_take (s : State) {a j k : Nat} (h : j ≤ k) :
    (s.memRead a k).take j = s.memRead a j := by
  refine List.ext_getElem (by simp [h]) fun i _ _ => ?_
  rw [List.getElem_take, State.memRead_getElem, State.memRead_getElem]

/-- The checksum field of the frame in BUF with the payload `BUF[l..l+n)`, rewritten in place
(41_framer.md R144). -/
def State.writeChecksum (s : State) (l n : Nat) : State :=
  s.memWrite (l + n) (checksumField (s.memRead l n) (checksumSize n))

/-- What RESEAL writes is the checksum field of the payload as it stands in BUF. -/
theorem State.memWrite_slice_reseal (s : State) {k l n : Nat} (h : l + n ≤ k) :
    s.memWrite (l + n) (slice (reseal (s.memRead 0 k) l n) (l + n) (l + n + checksumSize n)) =
      s.writeChecksum l n := by
  have hlen : ((s.memRead 0 k).take (l + n)).length = l + n := by simpa using h
  rw [slice, reseal, List.drop_left' hlen, Nat.add_sub_cancel_left,
    List.take_of_length_le (checksumField_length ..).le, s.payloadOf_memRead h, State.writeChecksum]

theorem State.byteAt_writeChecksum (s : State) (l : Nat) {n i : Nat} (hi : i < checksumSize n) :
    (s.writeChecksum l n).byteAt (l + n + i) = crc8 (s.memRead l n) + u8 i := by
  rw [State.writeChecksum, State.byteAt_memWrite, if_pos (by rw [checksumField_length]; omega),
    Nat.add_sub_cancel_left, checksumField_getD _ hi]

theorem State.byteAt_writeChecksum_outside (s : State) {l n a : Nat}
    (ha : a < l + n ∨ l + n + checksumSize n ≤ a) : (s.writeChecksum l n).byteAt a = s.byteAt a :=
  State.byteAt_memWrite_outside s (by rwa [checksumField_length])

/-- Afterwards BUF holds the resealed frame (41_framer.md R136). -/
theorem State.memRead_writeChecksum (s : State) {k l n : Nat} (h : l + n + checksumSize n = k) :
    (s.writeChecksum l n).memRead 0 k = reseal (s.memRead 0 k) l n := by
  have hread := s.memRead_zero_memWrite (l + n) (checksumField (s.memRead l n) (checksumSize n))
  rw [checksumField_length, h] at hread
  rw [State.writeChecksum, hread, reseal, State.memRead_take s (by omega),
    s.payloadOf_memRead (by omega)]

/-! ## How the commands complete -/

theorem word_toNat_self (w : Word) : word w.toNat = w := BitVec.eq_of_toNat_eq (word_toNat w.isLt)

theorem prefixSize_word {n : Nat} (hn : n < 2 ^ 64) : (word (prefixSize n)).toNat = prefixSize n :=
  word_toNat ((prefixSize_le_ten hn).trans_lt (by decide))

theorem SameBytes.setFrame_completed (s : State) (size l n : Nat) :
    SameBytes s (s.setFrame size l n).completed := State.byteAt_congr rfl rfl

theorem Succeeded.setFrame_completed (s : State) (size l n : Nat) :
    Succeeded s (s.setFrame size l n).completed :=
  .completed (by simp [KeepsControl]) (by simp [KeepsInfo])

theorem Succeeded.memWrite_setFrame_completed (s : State) (a : Nat) (bs : Bytes) (size l n : Nat) :
    Succeeded s ((s.memWrite a bs).setFrame size l n).completed :=
  .completed (by simp [KeepsControl]) (by simp [KeepsInfo])

theorem reportFits_of_parseHeader {f : Bytes} {e : CmdError} (hf : f.length < 2 ^ 64)
    (h : parseHeader f = .error e) : ReportFits e := by
  rcases parseHeader_eq_error h with rfl | ⟨sub, off, hd, rfl⟩ | ⟨n, k, hd, rfl⟩
  · exact ⟨hf, Nat.two_pow_pos 64, Nat.two_pow_pos 64⟩
  · obtain ⟨hsub, hoff⟩ := vlqDecodeLoop_bad_le rfl hd
    exact reportFits_badLengthField (by omega) (by omega)
  · obtain ⟨hn, -, -⟩ := vlqDecode_eq_ok hd
    exact ⟨hn, (Nat.min_le_right ..).trans_lt (by decide), hf⟩

theorem reportFits_of_parseFrame {f : Bytes} {e : CmdError} (hf : f.length < 2 ^ 64)
    (h : parseFrame f = .error e) : ReportFits e := by
  rcases parseFrame_eq_error h with hheader | ⟨off, hoff, rfl⟩
  · exact reportFits_of_parseHeader hf hheader
  · exact ⟨hoff.trans hf, Nat.two_pow_pos 64, Nat.two_pow_pos 64⟩

/-- What BUILD and BUILDZ leave of a payload `p` of LEN bytes (41_framer.md R141, R142). -/
def StoresFrameOf (p : Bytes) (s t : State) : Prop :=
  Succeeded s t ∧ t.rlen.toNat = paddedSize s.len.toNat ∧ t.poff.toNat = prefixSize s.len.toNat ∧
    t.plen = s.len ∧ t.value = s.value ∧ t.memRead 0 (paddedSize s.len.toNat) = buildFrame p ∧
    SameBytesFrom (paddedSize s.len.toNat) s t

theorem storesFrameOf_of_fits {s : State} (hcap : s.CapOk) {p : Bytes} (hp : p.length = s.len.toNat)
    (hfit : paddedSize s.len.toNat ≤ s.bufCap) :
    StoresFrameOf p s ((s.memWrite 0 (buildFrame p)).setFrame (paddedSize s.len.toNat)
      (prefixSize s.len.toNat) s.len.toNat).completed := by
  have hlen : (buildFrame p).length = paddedSize s.len.toNat :=
    hp ▸ buildFrame_length (hp ▸ s.len.isLt)
  have hbytes := SameBytes.setFrame_completed (s.memWrite 0 (buildFrame p)) (paddedSize s.len.toNat)
    (prefixSize s.len.toNat) s.len.toNat
  refine ⟨.memWrite_setFrame_completed .., ?_, ?_, ?_, by simp, ?_, fun i hi => ?_⟩
  · rw [State.completed_rlen, State.setFrame_rlen, word_toNat_of_le_cap hcap hfit]
  · rw [State.completed_poff, State.setFrame_poff, prefixSize_word s.len.isLt]
  · rw [State.completed_plen, State.setFrame_plen, word_toNat_self]
  · rw [State.memRead_congr hbytes, ← hlen, State.memRead_memWrite]
  · rw [hbytes i, State.byteAt_memWrite_outside s (.inr (by omega))]

/-! ## The obligations -/

/-- Settles O32: the formula, whose residue modulo 3 leaves one size in reach. -/
theorem checksumSizeIsSmallest : Obligations.ChecksumSizeIsSmallest := by
  intro n
  have hcast := checksumSize_intCast n
  obtain ⟨hpos, hle⟩ := checksumSize_bounds n
  exact ⟨hpos, hle, paddedSize_mod_three n, fun k hk hmod => by omega, hcast⟩

/-- Settles O33: a payload that is not empty has a length field, and the empty one has `C(0) = 3`. -/
theorem paddedSizeProperties : Obligations.PaddedSizeProperties :=
  ⟨fun n => ⟨paddedSize_mod_three n, add_two_le_paddedSize n⟩, by decide⟩

/-- Settles O34: the bound on `n` is the only one that a multiple of 3 leaves. -/
theorem paddedSizeFitsRegister : Obligations.PaddedSizeFitsRegister :=
  fun n hn => ⟨paddedSize_eq n, paddedSize_le_word_iff hn⟩

/-- Settles O35: the three parts one by one. -/
theorem buildFrameLayout : Obligations.BuildFrameLayout := by
  intro p hp
  have hn : p.length < 2 ^ 64 := by omega
  refine ⟨buildFrame_length hn, fun h1 => ?_, ?_, fun i hi => buildFrame_getD_checksum hn hi⟩
  · rw [buildFrame_eq, List.append_assoc, List.take_left' (framePrefix_length hn),
      framePrefix_of_ne_zero hn (by omega)]
  · rw [← payloadOf_eq, payloadOf_buildFrame hn]

/-- Settles O36: a clause for each way through the two functions. -/
theorem parseFrameChecksInOrder : Obligations.ParseFrameChecksInOrder := by
  intro f
  refine ⟨parseHeader_of_notAligned, fun _ _ => parseHeader_of_bad,
    fun _ _ => parseHeader_of_unexpected,
    fun n k h3 hd hlen => parseHeader_eq_ok_iff.mpr ⟨h3, ⟨k, hd⟩, hlen, rfl⟩,
    fun _ => parseFrame_of_header_error, fun l n i hh hi hbad hbefore => ?_, fun l n hh hall => ?_⟩
  · rw [← payloadOf_eq] at hbad hbefore
    exact parseFrame_of_mismatch hh (firstMismatch_eq_some_iff.mpr ⟨hbad, hi, hbefore⟩)
  · rw [← payloadOf_eq] at hall
    exact parseFrame_eq_ok_iff.mpr ⟨hh, firstMismatch_eq_none_iff.mpr hall⟩

/-- Settles O37: the header by the leading VLQ, the checksum bytes as built. -/
theorem builtFramesAreValid : Obligations.BuiltFramesAreValid := by
  intro p hp
  have hn : p.length < 2 ^ 64 := by omega
  exact ⟨parseFrame_buildFrame hn, by rw [← payloadOf_eq, payloadOf_buildFrame hn]⟩

/-- Settles O38: an accepted frame is its own resealing, and that is a built frame. -/
theorem validFramesAreBuiltFrames : Obligations.ValidFramesAreBuiltFrames := by
  refine ⟨fun f l n h => ?_, fun p hp => parseFrame_buildFrame (by omega)⟩
  have hheader := (parseFrame_eq_ok_iff.mp h).1
  obtain ⟨-, -, -, hl⟩ := parseHeader_eq_ok_iff.mp hheader
  rw [← payloadOf_eq]
  exact ⟨hl, payloadOf_length_of_header hheader, buildFrame_of_parseFrame_ok h⟩

/-- Settles O39: byte 0 lies behind the length field in the empty frame only, and every other byte
behind the length field is behind the leading VLQ as well. -/
theorem singleBitFlipIsDetected : Obligations.SingleBitFlipIsDetected := by
  intro p i k hp hi hlt hk
  by_cases h0 : i = 0
  · subst h0
    obtain rfl : p = [] := by simpa using prefixSize_le_iff.mp hi
    have hflip := parseFrame_empty_flip_byte_zero k hk
    split at hflip
    · exact .inl ⟨_, hflip⟩
    · exact .inr ⟨_, _, _, hflip⟩
  · exact .inl (parseFrame_set_eq_invalidChecksum (by omega) (max_le (by omega) hi) hlt
      (xor_twoPow_ne_self _ hk))

/-- Settles O40: the error exactly when the size does not fit its register. -/
theorem padsizeFollowsItsRule : Obligations.PadsizeFollowsItsRule := by
  refine ⟨decodeCommand_eq_some_iff_encode.mpr rfl, fun s => ?_⟩
  have hfits := paddedSize_le_word_iff s.value.isLt
  obtain ⟨t, ht, ⟨hbig, rfl⟩ | ⟨hfit, rfl⟩⟩ := execPadsize_cases s
  · refine ⟨fun hle => absurd (hfits.mpr hle) (not_le.mpr hbig), fun _ => ⟨_, ht, ?_⟩⟩
    exact ⟨.raised_self s (reportFits_range (by decide)), .raised s _⟩
  · refine ⟨fun _ => ⟨_, ht, ?_⟩, fun hge => absurd (hfits.mp hfit) (by omega)⟩
    refine ⟨.setFrame_completed .., ?_, ?_, ?_, by simp, .setFrame_completed s _ _ _⟩
    · rw [State.completed_rlen, State.setFrame_rlen, word_toNat (by omega)]
    · rw [State.completed_poff, State.setFrame_poff, prefixSize_word s.value.isLt]
    · rw [State.completed_plen, State.setFrame_plen, word_toNat_self]

/-- Settles O41: the three ends of the command, each ruling out the premises of the others. -/
theorem buildFollowsItsRule : Obligations.BuildFollowsItsRule := by
  refine ⟨decodeCommand_eq_some_iff_encode.mpr rfl, fun s hcap => ?_⟩
  have hsize := add_two_le_paddedSize s.len.toNat
  obtain ⟨t, ht, ⟨hlen, rfl⟩ | ⟨hlen, hbig, rfl⟩ | ⟨hlen, hfit, rfl⟩⟩ := execBuild_cases s
  · refine ⟨fun _ => ⟨_, ht, ?_⟩, fun hle => absurd hlen (not_lt.mpr hle), fun hle => by omega⟩
    exact ⟨.raised_self s (reportFits_range (by decide)), .raised s _⟩
  · refine ⟨fun hlt => absurd hlt (not_lt.mpr hlen), fun _ _ => ⟨_, ht, ?_⟩,
      fun hle => absurd hbig (not_lt.mpr hle)⟩
    exact ⟨.raised_self s (reportFits_range (by decide)), .raised s _⟩
  · exact ⟨fun hlt => absurd hlt (not_lt.mpr hlen), fun _ hlt => absurd hlt (not_lt.mpr hfit),
      fun _ => ⟨_, ht, storesFrameOf_of_fits hcap (by simp) hfit⟩⟩

/-- Settles O42: the two ends of the command. -/
theorem buildzFollowsItsRule : Obligations.BuildzFollowsItsRule := by
  refine ⟨decodeCommand_eq_some_iff_encode.mpr rfl, fun s hcap => ?_⟩
  obtain ⟨t, ht, ⟨hbig, rfl⟩ | ⟨hfit, rfl⟩⟩ := execBuildz_cases s
  · refine ⟨fun _ => ⟨_, ht, ?_⟩, fun hle => absurd hbig (not_lt.mpr hle)⟩
    exact ⟨.raised_self s (reportFits_range (by decide)), .raised s _⟩
  · exact ⟨fun hlt => absurd hlt (not_lt.mpr hfit),
      fun _ => ⟨_, ht, storesFrameOf_of_fits hcap (by simp) hfit⟩⟩

/-- Settles O43: what `ParseFrame` reports counts bytes of the input, and so fits the registers. -/
theorem parseFollowsItsRule : Obligations.ParseFollowsItsRule := by
  refine ⟨decodeCommand_eq_some_iff_encode.mpr rfl, fun s _ => ?_⟩
  have hword := s.len.isLt
  obtain ⟨t, ht, ⟨hlen, rfl⟩ | ⟨e, hlen, he, rfl⟩ | ⟨l, n, hlen, hok, rfl⟩⟩ := execParse_cases s
  · exact ⟨fun _ => ⟨_, ht, .raised_self s (reportFits_range (by decide)), .raised s _⟩,
      fun _ hle => absurd hlen (not_lt.mpr hle), fun _ _ hle => absurd hlen (not_lt.mpr hle)⟩
  · refine ⟨fun hlt => absurd hlt (not_lt.mpr hlen), fun e' _ he' => ?_,
      fun _ _ _ hok => (nomatch he.symm.trans hok)⟩
    obtain rfl := Except.error.inj (he.symm.trans he')
    exact ⟨_, ht, .raised_self s (reportFits_of_parseFrame (by simpa using hword) he), .raised s _⟩
  · refine ⟨fun hlt => absurd hlt (not_lt.mpr hlen), fun _ _ he => (nomatch hok.symm.trans he),
      fun l' n' _ hok' => ?_⟩
    obtain ⟨rfl, rfl⟩ := Prod.mk.inj (Except.ok.inj (hok.symm.trans hok'))
    have hin := parseHeader_ok_length (parseFrame_eq_ok_iff.mp hok).1
    rw [State.memRead_length] at hin
    exact ⟨_, ht, .setFrame_completed .., word_toNat_self s.len,
      word_toNat (by omega), word_toNat (by omega), rfl, .setFrame_completed s _ _ _⟩

/-- Settles O44: the checksum bytes written are those of `Reseal`, whose result is valid. -/
theorem resealFollowsItsRule : Obligations.ResealFollowsItsRule := by
  refine ⟨decodeCommand_eq_some_iff_encode.mpr rfl, fun s _ => ?_⟩
  have hword := s.len.isLt
  obtain ⟨t, ht, ⟨hlen, rfl⟩ | ⟨e, hlen, he, rfl⟩ | ⟨l, n, hlen, hok, rfl⟩⟩ := execReseal_cases s
  · exact ⟨fun _ => ⟨_, ht, .raised_self s (reportFits_range (by decide)), .raised s _⟩,
      fun _ hle => absurd hlen (not_lt.mpr hle), fun _ _ hle => absurd hlen (not_lt.mpr hle)⟩
  · refine ⟨fun hlt => absurd hlt (not_lt.mpr hlen), fun e' _ he' => ?_,
      fun _ _ _ hok => (nomatch he.symm.trans hok)⟩
    obtain rfl := Except.error.inj (he.symm.trans he')
    refine ⟨parseHeader_ne_invalidChecksum he, _, ht, ?_, .raised s _⟩
    exact .raised_self s (reportFits_of_parseHeader (by simpa using hword) he)
  · refine ⟨fun hlt => absurd hlt (not_lt.mpr hlen), fun _ _ he => (nomatch hok.symm.trans he),
      fun l' n' _ hok' => ⟨_, ht, ?_⟩⟩
    obtain ⟨rfl, rfl⟩ := Prod.mk.inj (Except.ok.inj (hok.symm.trans hok'))
    have hin := parseHeader_ok_length hok
    rw [State.memRead_length] at hin
    rw [s.memWrite_slice_reseal (by omega)]
    have hbytes := SameBytes.setFrame_completed (s.writeChecksum l n) s.len.toNat l n
    refine ⟨.memWrite_setFrame_completed .., word_toNat_self s.len, word_toNat (by omega),
      word_toNat (by omega), by simp [State.writeChecksum], fun i hi => ?_, fun a ha => ?_, ?_⟩
    · exact (hbytes _).trans (s.byteAt_writeChecksum l hi)
    · exact (hbytes a).trans (s.byteAt_writeChecksum_outside ha)
    · rw [State.memRead_congr hbytes, s.memRead_writeChecksum hin, parseFrame_reseal hok]

end Sys2Proof.Machine

/-! # The diffuser: settling the family of 42_diffuser.md

In layers: the bytes of a buffer under one store; the loops whose turns each read one other byte,
which are P1, P2, P5, P6 and their inverses, with their closed forms; the passes that rewrite each byte
or each block by itself, which are P3, P4, Flip and their inverses; Forward, Reverse and Mix composed
of them; and how MIX completes. -/

namespace Sys2Proof.Machine

/-! ## The bytes of a buffer under one store -/

theorem byteOf_set_same {buf : Bytes} {i : Nat} (v : Byte) (h : i < buf.length) :
    byteOf (buf.set i v) i = v := by
  simp [byteOf, h]

theorem byteOf_set_other {i j : Nat} (buf : Bytes) (v : Byte) (h : i ≠ j) :
    byteOf (buf.set i v) j = byteOf buf j := by
  simp [byteOf, List.getElem?_set_ne h]

theorem byteOf_eq_getElem {buf : Bytes} {i : Nat} (h : i < buf.length) : byteOf buf i = buf[i] := by
  simp [byteOf, h]

theorem set_byteOf_self (buf : Bytes) (i : Nat) : buf.set i (byteOf buf i) = buf := by
  rcases Nat.lt_or_ge i buf.length with h | h
  · rw [byteOf_eq_getElem h, List.set_getElem_self]
  · exact List.set_eq_of_length_le h

theorem ext_byteOf {x y : Bytes} (hlen : x.length = y.length)
    (h : ∀ i < x.length, byteOf x i = byteOf y i) : x = y := by
  refine List.ext_getElem hlen fun i hx hy => ?_
  rw [← byteOf_eq_getElem hx, ← byteOf_eq_getElem hy, h i hx]

@[simp] theorem mem_rising {a b i : Nat} : i ∈ rising a b ↔ a ≤ i ∧ i < b := by
  simp only [rising, List.mem_range'_1]
  omega

@[simp] theorem mem_falling {a b i : Nat} : i ∈ falling a b ↔ a ≤ i ∧ i < b := by
  rw [falling, List.mem_reverse, mem_rising]

theorem rising_of_le {a b : Nat} (h : b ≤ a) : rising a b = [] := by
  rw [rising, Nat.sub_eq_zero_of_le h, List.range'_zero]

theorem falling_of_le {a b : Nat} (h : b ≤ a) : falling a b = [] := by
  rw [falling, rising_of_le h, List.reverse_nil]

theorem rising_pairwise (a b : Nat) : (rising a b).Pairwise (· < ·) := List.pairwise_lt_range' ..

theorem falling_pairwise (a b : Nat) : (falling a b).Pairwise (· > ·) :=
  List.pairwise_reverse.mpr (rising_pairwise a b)

theorem sub_lt_of_mem_rising {i k n : Nat} (hk : 0 < k) (h : i ∈ rising k n) : i - k < i :=
  Nat.sub_lt (hk.trans_le (mem_rising.mp h).1) hk

/-! ## Loops whose turns read one other byte -/

/-- The loop `buf[i] <- op(buf[i], buf[src(i)])`. -/
def scan (op : Byte → Byte → Byte) (src : Nat → Nat) (indices : List Nat) (buf : Bytes) : Bytes :=
  loop indices (fun buf i => op (byteOf buf i) (byteOf buf (src i))) buf

section
variable {op op' : Byte → Byte → Byte} {src : Nat → Nat}

@[simp] theorem scan_length (indices : List Nat) (buf : Bytes) :
    (scan op src indices buf).length = buf.length := loop_length ..

theorem scan_nil (buf : Bytes) : scan op src [] buf = buf := rfl

theorem scan_cons (i : Nat) (indices : List Nat) (buf : Bytes) :
    scan op src (i :: indices) buf =
      scan op src indices (buf.set i (op (byteOf buf i) (byteOf buf (src i)))) := rfl

theorem scan_append_singleton (indices : List Nat) (i : Nat) (buf : Bytes) :
    scan op src (indices ++ [i]) buf =
      (scan op src indices buf).set i
        (op (byteOf (scan op src indices buf) i) (byteOf (scan op src indices buf) (src i))) :=
  List.foldl_append ..

theorem byteOf_scan_of_not_mem {indices : List Nat} {i : Nat} (h : i ∉ indices) (buf : Bytes) :
    byteOf (scan op src indices buf) i = byteOf buf i := by
  induction indices generalizing buf with
  | nil => rfl
  | cons k indices ih =>
    obtain ⟨hk, hi⟩ := not_or.mp (List.mem_cons.not.mp h)
    rw [scan_cons, ih hi, byteOf_set_other buf _ (Ne.symm hk)]

/-- Where each turn reads a byte that the loop has left behind, in the order `R` of its indices, the
result solves the loop's equation. -/
theorem byteOf_scan_of_mem {R : Nat → Nat → Prop} [Std.Asymm R] {indices : List Nat}
    (hidx : indices.Pairwise R) (hsrc : ∀ i ∈ indices, R (src i) i) {i : Nat} (hi : i ∈ indices)
    {buf : Bytes} (hlt : i < buf.length) :
    byteOf (scan op src indices buf) i =
      op (byteOf buf i) (byteOf (scan op src indices buf) (src i)) := by
  induction indices generalizing buf with
  | nil => cases hi
  | cons k indices ih =>
    obtain ⟨hfirst, hrest⟩ := List.pairwise_cons.mp hidx
    have hnot {j : Nat} (hj : ¬ R k j) : j ∉ indices := fun hmem => hj (hfirst j hmem)
    rw [scan_cons]
    by_cases hik : i = k
    · subst hik
      have hread := hsrc i List.mem_cons_self
      have hne : i ≠ src i := fun heq => Std.Asymm.asymm _ _ hread (heq ▸ hread)
      rw [byteOf_scan_of_not_mem (hnot fun h => Std.Asymm.asymm _ _ h h), byteOf_set_same _ hlt,
        byteOf_scan_of_not_mem (hnot (Std.Asymm.asymm _ _ hread)), byteOf_set_other buf _ hne]
    · have hmem := (List.mem_cons.mp hi).resolve_left hik
      rw [ih hrest (fun j hj => hsrc j (List.mem_cons_of_mem _ hj)) hmem (by simpa using hlt),
        byteOf_set_other buf _ (Ne.symm hik)]

/-- The loop with the inverse operation, in the opposite order, takes the turns back one by one. -/
theorem scan_reverse_scan (hop : ∀ a b, op' (op a b) b = a) {indices : List Nat}
    (hsrc : ∀ i ∈ indices, src i ≠ i) (buf : Bytes) :
    scan op' src indices.reverse (scan op src indices buf) = buf := by
  induction indices generalizing buf with
  | nil => rfl
  | cons i indices ih =>
    have hne := hsrc i List.mem_cons_self
    rw [List.reverse_cons, scan_append_singleton, scan_cons,
      ih fun j hj => hsrc j (List.mem_cons_of_mem _ hj), List.set_set,
      byteOf_set_other buf _ hne.symm]
    rcases Nat.lt_or_ge i buf.length with hlt | hge
    · rw [byteOf_set_same _ hlt, hop, set_byteOf_self]
    · exact List.set_eq_of_length_le hge

theorem scan_scan_reverse (hop : ∀ a b, op' (op a b) b = a) {indices : List Nat}
    (hsrc : ∀ i ∈ indices, src i ≠ i) (buf : Bytes) :
    scan op' src indices (scan op src indices.reverse buf) = buf := by
  have hundo := scan_reverse_scan hop (indices := indices.reverse)
    (fun i hi => hsrc i (List.mem_reverse.mp hi)) buf
  rwa [List.reverse_reverse] at hundo

end

/-! ## The four scans and their inverses -/

/-- From the head on, each byte with the one `k` before it. -/
def headScan (op : Byte → Byte → Byte) (k : Nat) (buf : Bytes) : Bytes :=
  scan op (· - k) (rising k buf.length) buf

/-- The turns of `headScan` in the opposite order. -/
def headUnscan (op : Byte → Byte → Byte) (k : Nat) (buf : Bytes) : Bytes :=
  scan op (· - k) (falling k buf.length) buf

/-- From the tail on, each byte with the one `k` behind it. -/
def tailScan (op : Byte → Byte → Byte) (k : Nat) (buf : Bytes) : Bytes :=
  scan op (· + k) (falling 0 (buf.length - k)) buf

/-- The turns of `tailScan` in the opposite order. -/
def tailUnscan (op : Byte → Byte → Byte) (k : Nat) (buf : Bytes) : Bytes :=
  scan op (· + k) (rising 0 (buf.length - k)) buf

theorem passP1_eq (buf : Bytes) : passP1 buf = headScan (· + ·) 1 buf := rfl
theorem passI1_eq (buf : Bytes) : passI1 buf = headUnscan (· - ·) 1 buf := rfl
theorem passP6_eq (buf : Bytes) : passP6 buf = tailScan (· ^^^ ·) 1 buf := rfl
theorem passI6_eq (buf : Bytes) : passI6 buf = tailUnscan (· ^^^ ·) 1 buf := rfl

/-- In a short buffer the loop has no turn, and so needs no test of the length. -/
theorem passP2_eq (buf : Bytes) : passP2 buf = headScan (· ^^^ ·) 3 buf := by
  unfold passP2 headScan
  split
  · rfl
  · rw [rising_of_le (by omega), scan_nil]

theorem passI2_eq (buf : Bytes) : passI2 buf = headUnscan (· ^^^ ·) 3 buf := by
  unfold passI2 headUnscan
  split
  · rfl
  · rw [falling_of_le (by omega), scan_nil]

theorem passP5_eq (buf : Bytes) : passP5 buf = tailScan (· + ·) 6 buf := by
  unfold passP5 tailScan
  split
  · rfl
  · rw [falling_of_le (by omega), scan_nil]

theorem passI5_eq (buf : Bytes) : passI5 buf = tailUnscan (· - ·) 6 buf := by
  unfold passI5 tailUnscan
  split
  · rfl
  · rw [rising_of_le (by omega), scan_nil]

section
variable {op op' : Byte → Byte → Byte} {k : Nat}

theorem headUnscan_headScan (hop : ∀ a b, op' (op a b) b = a) (hk : 0 < k) (x : Bytes) :
    headUnscan op' k (headScan op k x) = x := by
  rw [headUnscan, headScan, scan_length]
  exact scan_reverse_scan hop (fun i hi => (sub_lt_of_mem_rising hk hi).ne) x

theorem headScan_headUnscan (hop : ∀ a b, op' (op a b) b = a) (hk : 0 < k) (x : Bytes) :
    headScan op' k (headUnscan op k x) = x := by
  rw [headScan, headUnscan, scan_length]
  exact scan_scan_reverse hop (fun i hi => (sub_lt_of_mem_rising hk hi).ne) x

theorem tailUnscan_tailScan (hop : ∀ a b, op' (op a b) b = a) (hk : 0 < k) (x : Bytes) :
    tailUnscan op' k (tailScan op k x) = x := by
  rw [tailUnscan, tailScan, scan_length]
  exact scan_scan_reverse hop (fun i _ => (Nat.lt_add_of_pos_right hk).ne') x

theorem tailScan_tailUnscan (hop : ∀ a b, op' (op a b) b = a) (hk : 0 < k) (x : Bytes) :
    tailScan op' k (tailUnscan op k x) = x := by
  rw [tailScan, tailUnscan, scan_length]
  exact scan_reverse_scan hop (fun i _ => (Nat.lt_add_of_pos_right hk).ne') x

theorem byteOf_headScan_of_lt {i : Nat} (h : i < k) (x : Bytes) :
    byteOf (headScan op k x) i = byteOf x i := by
  refine byteOf_scan_of_not_mem ?_ x
  rw [mem_rising]
  omega

theorem byteOf_headScan {i : Nat} (hk : 0 < k) (hki : k ≤ i) {x : Bytes} (hi : i < x.length) :
    byteOf (headScan op k x) i = op (byteOf x i) (byteOf (headScan op k x) (i - k)) :=
  byteOf_scan_of_mem (rising_pairwise ..) (fun _ hj => sub_lt_of_mem_rising hk hj)
    (mem_rising.mpr ⟨hki, hi⟩) hi

theorem byteOf_tailScan_of_ge {i : Nat} {x : Bytes} (h : x.length ≤ i + k) :
    byteOf (tailScan op k x) i = byteOf x i := by
  refine byteOf_scan_of_not_mem ?_ x
  rw [mem_falling]
  omega

theorem byteOf_tailScan {i : Nat} (hk : 0 < k) {x : Bytes} (hi : i + k < x.length) :
    byteOf (tailScan op k x) i = op (byteOf x i) (byteOf (tailScan op k x) (i + k)) :=
  byteOf_scan_of_mem (falling_pairwise ..) (fun _ _ => by omega) (mem_falling.mpr (by omega))
    (by omega)

end

/-! ## Closed forms of the scans -/

/-- Two different numbers with the same residue are `k` or more apart. -/
theorem add_le_of_mod_eq {i j k : Nat} (h : i < j) (hmod : i % k = j % k) : i + k ≤ j := by
  have hdvd : k ∣ j - i := (Nat.modEq_iff_dvd' h.le).mp hmod
  have hle := Nat.le_of_dvd (by omega) hdvd
  omega

section
variable {i k : Nat}

theorem filter_range_of_lt (h : i < k) :
    ((List.range (i + 1)).filter fun j => j % k = i % k) = [i] := by
  refine (List.pairwise_lt_range.filter _).eq_of_mem_iff (List.pairwise_singleton _ _) fun j => ?_
  simp only [List.mem_filter, List.mem_range, decide_eq_true_eq, List.mem_singleton]
  refine ⟨fun ⟨hj, hmod⟩ => ?_, ?_⟩
  · by_contra hne
    have hfar := add_le_of_mod_eq (by omega) hmod
    omega
  · rintro rfl
    exact ⟨Nat.lt_succ_self j, rfl⟩

theorem filter_range_of_le (hk : 0 < k) (h : k ≤ i) :
    ((List.range (i + 1)).filter fun j => j % k = i % k) =
      ((List.range (i - k + 1)).filter fun j => j % k = (i - k) % k) ++ [i] := by
  have hback : (i - k) % k = i % k := (Nat.mod_eq_sub_mod h).symm
  refine (List.pairwise_lt_range.filter _).eq_of_mem_iff ?_ fun j => ?_
  · refine List.pairwise_append.mpr ⟨List.pairwise_lt_range.filter _,
      List.pairwise_singleton _ _, ?_⟩
    intro a ha b hb
    have hlt := List.mem_range.mp (List.mem_filter.mp ha).1
    have heq := List.mem_singleton.mp hb
    omega
  · simp only [List.mem_append, List.mem_filter, List.mem_range, decide_eq_true_eq,
      List.mem_singleton, hback]
    refine ⟨fun ⟨hj, hmod⟩ => ?_, ?_⟩
    · by_cases hne : j = i
      · exact .inr hne
      · have hfar := add_le_of_mod_eq (by omega) hmod
        exact .inl ⟨by omega, hmod⟩
    · rintro (⟨hj, hmod⟩ | rfl)
      · exact ⟨by omega, hmod⟩
      · exact ⟨by omega, rfl⟩

theorem filter_range'_eq_cons (hk : 0 < k) {n : Nat} (hi : i < n) :
    ((List.range' i (n - i)).filter fun j => j % k = i % k) =
      i :: (List.range' (i + k) (n - (i + k))).filter fun j => j % k = (i + k) % k := by
  refine ((List.pairwise_lt_range' ..).filter _).eq_of_mem_iff ?_ fun j => ?_
  · refine List.pairwise_cons.mpr ⟨?_, (List.pairwise_lt_range' ..).filter _⟩
    simp only [List.mem_filter, List.mem_range'_1]
    omega
  · simp only [List.mem_cons, List.mem_filter, List.mem_range'_1, decide_eq_true_eq,
      Nat.add_mod_right]
    refine ⟨fun ⟨hj, hmod⟩ => ?_, ?_⟩
    · by_cases hne : j = i
      · exact .inl hne
      · have hfar := add_le_of_mod_eq (by omega) hmod.symm
        exact .inr ⟨by omega, hmod⟩
    · rintro (rfl | ⟨hj, hmod⟩)
      · exact ⟨by omega, rfl⟩
      · exact ⟨by omega, hmod⟩

theorem filter_mod_one (l : List Nat) : (l.filter fun j => j % 1 = i % 1) = l := by
  simp [Nat.mod_one]

variable {op : Byte → Byte → Byte}

theorem foldl_singleton [Std.LawfulIdentity op 0] (a : Byte) : [a].foldl op 0 = a :=
  Std.LawfulLeftIdentity.left_id a

theorem foldl_append_comm [Std.Commutative op] (l : Bytes) (a : Byte) :
    (l ++ [a]).foldl op 0 = op a (l.foldl op 0) := by
  rw [List.foldl_append]
  exact Std.Commutative.comm ..

theorem foldl_cons_comm [Std.Associative op] [Std.Commutative op] (a : Byte) (l : Bytes) :
    (a :: l).foldl op 0 = op a (l.foldl op 0) := by
  rw [List.foldl_cons, Std.Commutative.comm (op := op) 0 a, List.foldl_assoc]

variable [Std.Commutative op] [Std.LawfulIdentity op 0]

/-- Byte `i` of a scan from the head collects the bytes up to `i` in steps of `k`. -/
theorem headScan_closed_form (hk : 0 < k) {x : Bytes} (hi : i < x.length) :
    byteOf (headScan op k x) i =
      (((List.range (i + 1)).filter fun j => j % k = i % k).map (byteOf x)).foldl op 0 := by
  induction i using Nat.strong_induction_on with
  | _ i ih =>
    rcases Nat.lt_or_ge i k with hlt | hge
    · rw [byteOf_headScan_of_lt hlt, filter_range_of_lt hlt, List.map_singleton,
        foldl_singleton]
    · rw [byteOf_headScan hk hge hi, ih (i - k) (by omega) (by omega), filter_range_of_le hk hge,
        List.map_append, List.map_singleton, foldl_append_comm]

/-- Byte `i` of a scan from the tail collects the bytes from `i` on in steps of `k`. -/
theorem tailScan_closed_form [Std.Associative op] {i : Nat} (hk : 0 < k) {x : Bytes}
    (hi : i < x.length) : byteOf (tailScan op k x) i =
      (((List.range' i (x.length - i)).filter fun j => j % k = i % k).map (byteOf x)).foldl op 0 := by
  rw [filter_range'_eq_cons hk hi, List.map_cons, foldl_cons_comm]
  rcases Nat.lt_or_ge (i + k) x.length with hlt | hge
  · rw [byteOf_tailScan hk hlt, tailScan_closed_form hk hlt]
  · rw [byteOf_tailScan_of_ge hge, Nat.sub_eq_zero_of_le hge]
    exact (Std.LawfulRightIdentity.right_id _).symm
termination_by x.length - i

end

/-! ## Passes that rewrite each part by itself -/

/-- `get` and `set` cut a buffer of `len` bytes into `n` separate parts, which are all of it. -/
structure CutsInto {α : Type} (get : Bytes → Nat → α) (set : Bytes → Nat → α → Bytes)
    (len n : Nat) : Prop where
  length : ∀ buf i v, (set buf i v).length = buf.length
  same : ∀ buf i v, buf.length = len → i < n → get (set buf i v) i = v
  other : ∀ buf i j v, i ≠ j → get (set buf i v) j = get buf j
  ext : ∀ x y, x.length = len → y.length = len → (∀ i < n, get x i = get y i) → x = y

/-- `part_i <- g_i(part_i)` for the parts with the given indices. -/
def mapParts {α : Type} (get : Bytes → Nat → α) (set : Bytes → Nat → α → Bytes) (g : Nat → α → α)
    (indices : List Nat) (buf : Bytes) : Bytes :=
  indices.foldl (fun buf i => set buf i (g i (get buf i))) buf

namespace CutsInto
variable {α : Type} {get : Bytes → Nat → α} {set : Bytes → Nat → α → Bytes} {len n : Nat}
  (h : CutsInto get set len n)
include h

theorem length_mapParts (g : Nat → α → α) (indices : List Nat) (buf : Bytes) :
    (mapParts get set g indices buf).length = buf.length :=
  foldl_length_eq (fun _ _ => h.length ..) _ _

theorem get_mapParts_of_not_mem (g : Nat → α → α) {indices : List Nat} {i : Nat} (hi : i ∉ indices)
    (buf : Bytes) : get (mapParts get set g indices buf) i = get buf i := by
  induction indices generalizing buf with
  | nil => rfl
  | cons k indices ih =>
    obtain ⟨hk, hi⟩ := not_or.mp (List.mem_cons.not.mp hi)
    exact (ih hi _).trans (h.other _ _ _ _ (Ne.symm hk))

theorem get_mapParts_of_mem (g : Nat → α → α) {indices : List Nat} (hidx : indices.Nodup) {i : Nat}
    (hi : i ∈ indices) (hn : i < n) {buf : Bytes} (hlen : buf.length = len) :
    get (mapParts get set g indices buf) i = g i (get buf i) := by
  induction indices generalizing buf with
  | nil => cases hi
  | cons k indices ih =>
    obtain ⟨hk, hrest⟩ := List.nodup_cons.mp hidx
    by_cases hik : i = k
    · subst hik
      exact (h.get_mapParts_of_not_mem g hk _).trans (h.same _ _ _ hlen hn)
    · refine (ih hrest ((List.mem_cons.mp hi).resolve_left hik) ((h.length ..).trans hlen)).trans ?_
      rw [h.other _ _ _ _ (Ne.symm hik)]

theorem get_mapParts (g : Nat → α → α) {i : Nat} (hi : i < n) {buf : Bytes}
    (hlen : buf.length = len) : get (mapParts get set g (rising 0 n) buf) i = g i (get buf i) :=
  h.get_mapParts_of_mem g (rising_pairwise 0 n).nodup (mem_rising.mpr ⟨i.zero_le, hi⟩) hi hlen

/-- Where each part's function is undone, the pass is undone. -/
theorem mapParts_cancel {g g' : Nat → α → α} (hg : ∀ i v, g' i (g i v) = v) {buf : Bytes}
    (hlen : buf.length = len) :
    mapParts get set g' (rising 0 n) (mapParts get set g (rising 0 n) buf) = buf := by
  have hmap : (mapParts get set g (rising 0 n) buf).length = len :=
    (h.length_mapParts g _ buf).trans hlen
  refine h.ext _ _ ((h.length_mapParts g' _ _).trans hmap) hlen fun i hi => ?_
  rw [h.get_mapParts g' hi hmap, h.get_mapParts g hi hlen, hg]

end CutsInto

/-! ## P3: the parts are the bytes -/

theorem cutsInto_bytes (len : Nat) : CutsInto byteOf List.set len len where
  length _ _ _ := List.length_set
  same _ _ v hlen hi := byteOf_set_same v (hlen ▸ hi)
  other buf _ _ v hne := byteOf_set_other buf v hne
  ext _ _ hx hy h := ext_byteOf (hx.trans hy.symm) (hx ▸ h)

theorem passP3_eq (buf : Bytes) :
    passP3 buf = mapParts byteOf List.set (fun i b => b + u8 i) (rising 0 buf.length) buf := rfl

theorem passI3_eq (buf : Bytes) :
    passI3 buf = mapParts byteOf List.set (fun i b => b - u8 i) (rising 0 buf.length) buf := rfl

theorem byteOf_passP3 {x : Bytes} {i : Nat} (hi : i < x.length) :
    byteOf (passP3 x) i = byteOf x i + u8 i := by
  rw [passP3_eq]
  exact (cutsInto_bytes x.length).get_mapParts _ hi rfl

/-! ## P4 and Flip: the parts are the blocks -/

/-- The three bytes of a block. -/
abbrev Block := Byte × Byte × Byte

/-- The block as a big-endian 24-bit number (30_encoding.md R79). -/
def Block.value (t : Block) : BitVec 24 := t.1 ++ t.2.1 ++ t.2.2

def Block.ofValue (v : BitVec 24) : Block :=
  (v.extractLsb' 16 8, v.extractLsb' 8 8, v.extractLsb' 0 8)

/-- The block with its number rotated left. -/
def Block.rotate (r : Nat) (t : Block) : Block := .ofValue (rotl24 t.value r)

/-- The ends swapped and the bits of the middle byte reversed (42_diffuser.md R168). -/
def Block.flip (t : Block) : Block := (t.2.2, rev8 t.2.1, t.1)

/-- Block `b` of a buffer. -/
def blockOf (buf : Bytes) (b : Nat) : Block :=
  (byteOf buf (3 * b), byteOf buf (3 * b + 1), byteOf buf (3 * b + 2))

def putBlock (buf : Bytes) (b : Nat) (t : Block) : Bytes := setBlock buf b t.1 t.2.1 t.2.2

theorem blockValue_eq (buf : Bytes) (b : Nat) : blockValue buf b = (blockOf buf b).value := rfl

theorem passP4_eq (buf : Bytes) :
    passP4 buf =
      mapParts blockOf putBlock (fun b => .rotate (angle b)) (rising 0 (buf.length / 3)) buf := rfl

theorem passI4_eq (buf : Bytes) :
    passI4 buf = mapParts blockOf putBlock (fun b => .rotate (24 - angle b))
      (rising 0 (buf.length / 3)) buf := rfl

theorem flipPass_eq (buf : Bytes) :
    flipPass buf = mapParts blockOf putBlock (fun _ => .flip) (rising 0 (buf.length / 3)) buf := rfl

theorem blockOf_putBlock_same {buf : Bytes} {b : Nat} (t : Block) (h : 3 * b + 2 < buf.length) :
    blockOf (putBlock buf b t) b = t := by
  have h0 : 3 * b < buf.length := by omega
  have h1 : 3 * b + 1 < buf.length := by omega
  simp [blockOf, putBlock, setBlock, byteOf, h0, h1, h]

theorem byteOf_putBlock_other {b i : Nat} (buf : Bytes) (t : Block) (h : i / 3 ≠ b) :
    byteOf (putBlock buf b t) i = byteOf buf i := by
  rw [putBlock, setBlock, byteOf_set_other _ _ (by omega), byteOf_set_other _ _ (by omega),
    byteOf_set_other _ _ (by omega)]

theorem blockOf_putBlock_other {b c : Nat} (buf : Bytes) (t : Block) (h : b ≠ c) :
    blockOf (putBlock buf b t) c = blockOf buf c := by
  rw [blockOf, byteOf_putBlock_other _ _ (by omega), byteOf_putBlock_other _ _ (by omega),
    byteOf_putBlock_other _ _ (by omega), blockOf]

theorem ext_blockOf {x y : Bytes} {n : Nat} (hx : x.length = 3 * n) (hy : y.length = 3 * n)
    (h : ∀ b < n, blockOf x b = blockOf y b) : x = y := by
  refine ext_byteOf (hx.trans hy.symm) fun i hi => ?_
  obtain ⟨h0, h12⟩ := Prod.mk.inj (h (i / 3) (by omega))
  obtain ⟨h1, h2⟩ := Prod.mk.inj h12
  obtain hr | hr | hr : i = 3 * (i / 3) ∨ i = 3 * (i / 3) + 1 ∨ i = 3 * (i / 3) + 2 := by omega
  · rwa [← hr] at h0
  · rwa [← hr] at h1
  · rwa [← hr] at h2

theorem cutsInto_blocks (n : Nat) : CutsInto blockOf putBlock (3 * n) n where
  length _ _ _ := setBlock_length ..
  same _ _ t hlen hb := blockOf_putBlock_same t (by omega)
  other buf _ _ t hne := blockOf_putBlock_other buf t hne
  ext _ _ := ext_blockOf

/-! ## The rotation of a block's number -/

theorem angle_bounds (b : Nat) : 0 < angle b ∧ angle b < 24 := by
  unfold angle
  omega

/-- The two shifts of a rotation fill disjoint bits. -/
theorem rotl24_toNat (v : BitVec 24) {r : Nat} (hr : r ≤ 24) :
    (rotl24 v r).toNat = v.toNat * 2 ^ r % 2 ^ 24 + v.toNat / 2 ^ (24 - r) := by
  have hsplit : 2 ^ 24 = 2 ^ r * 2 ^ (24 - r) := by rw [← Nat.pow_add, Nat.add_sub_cancel' hr]
  have hlow : v.toNat / 2 ^ (24 - r) < 2 ^ r :=
    Nat.div_lt_of_lt_mul (by rw [Nat.mul_comm, ← hsplit]; exact v.isLt)
  rw [rotl24, BitVec.toNat_or, BitVec.toNat_shiftLeft, BitVec.toNat_ushiftRight, Nat.shiftLeft_eq,
    Nat.shiftRight_eq_div_pow, Nat.mul_comm, hsplit, Nat.mul_mod_mul_left]
  exact (Nat.two_pow_add_eq_or_of_lt hlow _).symm

theorem getLsbD_rotl24 (v : BitVec 24) {r i : Nat} (hi : i < 24) :
    (rotl24 v r).getLsbD i = if i < r then v.getLsbD (24 - r + i) else v.getLsbD (i - r) := by
  rw [rotl24, BitVec.getLsbD_or, BitVec.getLsbD_shiftLeft, BitVec.getLsbD_ushiftRight]
  split
  · next h => simp [h]
  · next h => simp [h, hi, BitVec.getLsbD_of_ge v (24 - r + i) (by omega)]

theorem rotl24_rotl24 (v : BitVec 24) {r q : Nat} (hr : 0 < r) (hsum : r + q = 24) :
    rotl24 (rotl24 v r) q = v := by
  refine BitVec.eq_of_getLsbD_eq fun i hi => ?_
  rw [getLsbD_rotl24 _ hi]
  split
  · rw [getLsbD_rotl24 _ (by omega), if_neg (by omega)]
    congr 1
    omega
  · rw [getLsbD_rotl24 _ (by omega), if_pos (by omega)]
    congr 1
    omega

theorem Block.value_ofValue (v : BitVec 24) : (Block.ofValue v).value = v := by
  change v.extractLsb' 16 8 ++ v.extractLsb' 8 8 ++ v.extractLsb' 0 8 = v
  rw [BitVec.extractLsb'_append_extractLsb'_eq_extractLsb' (show 16 = 8 + 8 from rfl),
    BitVec.extractLsb'_append_extractLsb'_eq_extractLsb' (show 8 = 0 + 8 from rfl)]
  exact BitVec.extractLsb'_eq_self

theorem Block.ofValue_value (t : Block) : Block.ofValue t.value = t := by
  obtain ⟨x, y, z⟩ := t
  refine Prod.ext ?_ (Prod.ext ?_ ?_)
  · change (x ++ y ++ z).extractLsb' 16 8 = x
    rw [BitVec.extractLsb'_append_eq_of_le (by decide), BitVec.extractLsb'_append_eq_left]
  · change (x ++ y ++ z).extractLsb' 8 8 = y
    rw [BitVec.extractLsb'_append_eq_of_le (by decide), BitVec.extractLsb'_append_eq_right]
  · exact BitVec.extractLsb'_append_eq_right

theorem Block.rotate_rotate (t : Block) {r q : Nat} (hr : 0 < r) (hsum : r + q = 24) :
    (t.rotate r).rotate q = t := by
  rw [Block.rotate, Block.rotate, Block.value_ofValue, rotl24_rotl24 _ hr hsum, Block.ofValue_value]

theorem rev8_getLsbD (b : Byte) {j : Nat} (hj : j < 8) :
    (rev8 b).getLsbD j = b.getLsbD (7 - j) := by
  rw [rev8, BitVec.getLsbD_reverse, BitVec.getMsbD_eq_getLsbD]
  simp [hj]

theorem Block.flip_flip (t : Block) : t.flip.flip = t := by
  simp [Block.flip, rev8]

/-! ## Each inverse pass undoes its forward pass -/

theorem passI1_passP1 (x : Bytes) : passI1 (passP1 x) = x :=
  headUnscan_headScan BitVec.add_sub_cancel Nat.one_pos x

theorem passP1_passI1 (x : Bytes) : passP1 (passI1 x) = x :=
  headScan_headUnscan BitVec.sub_add_cancel Nat.one_pos x

theorem xor_xor_cancel_right (a b : Byte) : a ^^^ b ^^^ b = a := by
  rw [BitVec.xor_assoc, BitVec.xor_self, BitVec.xor_zero]

theorem passI2_passP2 (x : Bytes) : passI2 (passP2 x) = x := by
  rw [passI2_eq, passP2_eq, headUnscan_headScan xor_xor_cancel_right (by decide)]

theorem passP2_passI2 (x : Bytes) : passP2 (passI2 x) = x := by
  rw [passI2_eq, passP2_eq, headScan_headUnscan xor_xor_cancel_right (by decide)]

theorem passI3_passP3 (x : Bytes) : passI3 (passP3 x) = x := by
  rw [passI3_eq, passP3_length, passP3_eq]
  exact (cutsInto_bytes _).mapParts_cancel (fun _ _ => BitVec.add_sub_cancel ..) rfl

theorem passP3_passI3 (x : Bytes) : passP3 (passI3 x) = x := by
  rw [passP3_eq, passI3_length, passI3_eq]
  exact (cutsInto_bytes _).mapParts_cancel (fun _ _ => BitVec.sub_add_cancel ..) rfl

theorem passI5_passP5 (x : Bytes) : passI5 (passP5 x) = x := by
  rw [passI5_eq, passP5_eq, tailUnscan_tailScan BitVec.add_sub_cancel (by decide)]

theorem passP5_passI5 (x : Bytes) : passP5 (passI5 x) = x := by
  rw [passI5_eq, passP5_eq, tailScan_tailUnscan BitVec.sub_add_cancel (by decide)]

theorem passI6_passP6 (x : Bytes) : passI6 (passP6 x) = x :=
  tailUnscan_tailScan xor_xor_cancel_right Nat.one_pos x

theorem passP6_passI6 (x : Bytes) : passP6 (passI6 x) = x :=
  tailScan_tailUnscan xor_xor_cancel_right Nat.one_pos x

section
variable {x : Bytes} (h : x.length % 3 = 0)
include h

theorem passI4_passP4 : passI4 (passP4 x) = x := by
  rw [passI4_eq, passP4_length, passP4_eq]
  refine (cutsInto_blocks _).mapParts_cancel (fun b t => ?_) (by omega)
  obtain ⟨hpos, hlt⟩ := angle_bounds b
  exact t.rotate_rotate hpos (by omega)

theorem passP4_passI4 : passP4 (passI4 x) = x := by
  rw [passP4_eq, passI4_length, passI4_eq]
  refine (cutsInto_blocks _).mapParts_cancel (fun b t => ?_) (by omega)
  obtain ⟨hpos, hlt⟩ := angle_bounds b
  exact t.rotate_rotate (by omega) (by omega)

theorem flipPass_flipPass : flipPass (flipPass x) = x := by
  rw [flipPass_eq, flipPass_length, flipPass_eq]
  exact (cutsInto_blocks _).mapParts_cancel (fun _ => Block.flip_flip) (by omega)

/-! ## Forward, Reverse and Mix -/

theorem backward_forward : backward (forward x) = x := by
  rw [backward, forward, passI6_passP6, passI5_passP5, passI4_passP4 (by simpa using h),
    passI3_passP3, passI2_passP2, passI1_passP1]

theorem forward_backward : forward (backward x) = x := by
  rw [backward, forward, passP1_passI1, passP2_passI2, passP3_passI3,
    passP4_passI4 (by simpa using h), passP5_passI5, passP6_passI6]

/-- Mix is conjugate to Flip, which is an involution (42_diffuser.md R178). -/
theorem mix_mix : mix (mix x) = x := by
  rw [mix, mix, forward_backward (by simpa using h), flipPass_flipPass (by simpa using h),
    backward_forward h]

end

/-! ## How MIX completes -/

/-- Two states that agree at the head of BUF and behind it hold the same bytes. -/
theorem SameBytes.of_memRead {s t : State} {n : Nat} (hpre : t.memRead 0 n = s.memRead 0 n)
    (hfrom : SameBytesFrom n s t) : SameBytes s t := by
  intro i
  rcases Nat.lt_or_ge i n with hi | hi
  · have hbyte := congrArg (·[i]?) hpre
    simpa [State.memRead, hi] using hbyte
  · exact hfrom i hi

theorem reportFits_notAligned {length : Nat} (h : length < 2 ^ 64) :
    ReportFits (.notAligned length) := ⟨h, Nat.two_pow_pos 64, Nat.two_pow_pos 64⟩

theorem Succeeded.memWrite_setRlen_completed (s : State) (a : Nat) (bs : Bytes) (v : Word) :
    Succeeded s ((s.memWrite a bs).setRlen v).completed :=
  .completed (by simp [KeepsControl]) (by simp [KeepsInfo])

theorem SameBytes.setRlen_completed (s : State) (v : Word) : SameBytes s (s.setRlen v).completed :=
  State.byteAt_congr rfl rfl

/-- What MIX leaves of an aligned input that fits (42_diffuser.md R180). -/
def MixesInput (s t : State) : Prop :=
  Succeeded s t ∧ t.rlen = s.len ∧ t.value = s.value ∧ t.poff = s.poff ∧ t.plen = s.plen ∧
    t.memRead 0 s.len.toNat = mix (s.memRead 0 s.len.toNat) ∧ SameBytesFrom s.len.toNat s t

theorem execMix_of_aligned {s : State} (hle : s.len.toNat ≤ s.bufCap) (h3 : s.len.toNat % 3 = 0) :
    ∃ t, exec .mix s = .next t ∧ MixesInput s t := by
  obtain ⟨t, ht, ⟨hlt, -⟩ | ⟨-, hne, -⟩ | ⟨-, -, rfl⟩⟩ := execMix_cases s
  · omega
  · exact absurd h3 hne
  · have hlen : (mix (s.memRead 0 s.len.toNat)).length = s.len.toNat := by simp
    have hbytes := SameBytes.setRlen_completed (s.memWrite 0 (mix (s.memRead 0 s.len.toNat))) s.len
    refine ⟨_, ht, .memWrite_setRlen_completed .., by simp, by simp, by simp, by simp, ?_,
      fun i hi => ?_⟩
    · rw [State.memRead_congr hbytes]
      have hread := s.memRead_memWrite 0 (mix (s.memRead 0 s.len.toNat))
      rwa [hlen] at hread
    · rw [hbytes i, State.byteAt_memWrite_outside s (.inr (by omega))]

/-- A second MIX with the same LEN restores BUF (42_diffuser.md R180). -/
theorem execMix_restores {s t t' : State} (hle : s.len.toNat ≤ s.bufCap) (h3 : s.len.toNat % 3 = 0)
    (hmix : t.memRead 0 s.len.toNat = mix (s.memRead 0 s.len.toNat))
    (hfrom : SameBytesFrom s.len.toNat s t) (hsame : SameBytes t t') (hlen : t'.len = s.len)
    (hcap : t'.bufCap = s.bufCap) : ∃ u, exec .mix t' = .next u ∧ SameBytes s u := by
  have hle' : t'.len.toNat ≤ t'.bufCap := by rwa [hlen, hcap]
  obtain ⟨u, hu, -, -, -, -, -, hread, hrest⟩ := execMix_of_aligned hle' (hlen ▸ h3)
  rw [hlen] at hread hrest
  refine ⟨u, hu, .of_memRead (n := s.len.toNat) ?_ fun i hi => ?_⟩
  · rw [hread, State.memRead_congr hsame, hmix, mix_mix (by simpa using h3)]
  · rw [hrest i hi, hsame i, hfrom i hi]

/-! ## The obligations -/

/-- Settles O45: the sums and XORs without a step are those with step 1. -/
theorem passClosedForms : Obligations.PassClosedForms := by
  intro x
  refine ⟨passP1_length x, passP2_length x, passP3_length x, passP5_length x, passP6_length x,
    fun i hi => ⟨?_, ?_, byteOf_passP3 hi, ?_, ?_⟩⟩
  · have hsum := headScan_closed_form (op := (· + ·)) Nat.one_pos hi
    rwa [filter_mod_one] at hsum
  · rw [passP2_eq]
    exact headScan_closed_form (by decide) hi
  · rw [passP5_eq]
    exact tailScan_closed_form (by decide) hi
  · have hxor := tailScan_closed_form (op := (· ^^^ ·)) Nat.one_pos hi
    rwa [filter_mod_one] at hxor

/-- Settles O46: both passes rewrite each block by itself. -/
theorem blockPassesActBlockwise : Obligations.BlockPassesActBlockwise := by
  intro x b h3 hb
  have hcut := cutsInto_blocks (x.length / 3)
  have hlen : x.length = 3 * (x.length / 3) := by omega
  have hrot : blockOf (passP4 x) b = (blockOf x b).rotate (angle b) := by
    rw [passP4_eq]
    exact hcut.get_mapParts _ hb hlen
  have hflip : blockOf (flipPass x) b = (blockOf x b).flip := by
    rw [flipPass_eq]
    exact hcut.get_mapParts _ hb hlen
  obtain ⟨hfirst, hrest⟩ := Prod.mk.inj hflip
  obtain ⟨hmiddle, hlast⟩ := Prod.mk.inj hrest
  refine ⟨passP4_length x, flipPass_length x, ?_, hfirst, hlast, fun j hj => ?_⟩
  · rw [blockValue_eq, hrot, Block.rotate, Block.value_ofValue,
      rotl24_toNat _ (angle_bounds b).2.le]
    rfl
  · exact (congrArg (·.getLsbD j) hmiddle).trans (rev8_getLsbD _ hj)

/-- Settles O47: P4 and I4 alone need whole blocks. -/
theorem inversePassesUndoForwardPasses : Obligations.InversePassesUndoForwardPasses := by
  intro x h3
  exact ⟨⟨passI1_passP1 x, passP1_passI1 x⟩, ⟨passI2_passP2 x, passP2_passI2 x⟩,
    ⟨passI3_passP3 x, passP3_passI3 x⟩, ⟨passI4_passP4 h3, passP4_passI4 h3⟩,
    ⟨passI5_passP5 x, passP5_passI5 x⟩, ⟨passI6_passP6 x, passP6_passI6 x⟩, rfl, rfl,
    backward_forward h3, forward_backward h3⟩

/-- Settles O48: Mix is Flip between Forward and its inverse. -/
theorem mixIsAnInvolution : Obligations.MixIsAnInvolution :=
  fun x h3 => ⟨rfl, rfl, mix_mix h3, mix_length x⟩

/-- Settles O49: the three ends of the command, and its success taken twice. -/
theorem mixFollowsItsRule : Obligations.MixFollowsItsRule := by
  refine ⟨decodeCommand_eq_some_iff_encode.mpr rfl, fun s _ => ⟨fun hlt => ?_, fun hle hne => ?_,
    fun hle h3 => ?_⟩⟩
  · obtain ⟨t, ht, ⟨-, rfl⟩ | ⟨hle, -⟩ | ⟨hle, -⟩⟩ := execMix_cases s
    · exact ⟨_, ht, .raised_self s (reportFits_range (by decide)), .raised s _⟩
    · exact absurd hlt (not_lt.mpr hle)
    · exact absurd hlt (not_lt.mpr hle)
  · obtain ⟨t, ht, ⟨hlt, -⟩ | ⟨-, -, rfl⟩ | ⟨-, h3, -⟩⟩ := execMix_cases s
    · exact absurd hlt (not_lt.mpr hle)
    · exact ⟨_, ht, .raised_self s (reportFits_notAligned s.len.isLt), .raised s _⟩
    · exact absurd h3 hne
  · obtain ⟨t, ht, hdone, hrlen, hvalue, hpoff, hplen, hmix, hfrom⟩ := execMix_of_aligned hle h3
    exact ⟨t, ht, hdone, hrlen, hvalue, hpoff, hplen, hmix, hfrom,
      fun _ => execMix_restores hle h3 hmix hfrom⟩

end Sys2Proof.Machine

/-! # Orchestration: settling the family of 43_orchestration.md

In layers: BUF with its head replaced; the errors of `ParseFrame` that an aligned candidate leaves; how
ENCODE completes; how DECODE and DECODE_VIEW complete, their errors in one since both unmix the blob
first; and the commands one after the other. -/

namespace Sys2Proof.Machine

/-! ## BUF with its head replaced -/

/-- BUF of `t` is BUF of `s` with `bs` in place of its first `k` bytes. -/
structure HeadReplaced (k : Nat) (bs : Bytes) (s t : State) : Prop where
  head : t.memRead 0 k = bs
  tail : SameBytesFrom k s t

namespace HeadReplaced
variable {k : Nat} {bs : Bytes} {s t u : State}

theorem memWrite (s : State) (hlen : bs.length = k) : HeadReplaced k bs s (s.memWrite 0 bs) where
  head := hlen ▸ s.memRead_memWrite 0 bs
  tail _ hi := State.byteAt_memWrite_outside s (.inr (by omega))

theorem congr_right (h : HeadReplaced k bs s t) (hu : SameBytes t u) : HeadReplaced k bs s u where
  head := (State.memRead_congr hu 0 k).trans h.head
  tail i hi := (hu i).trans (h.tail i hi)

theorem byteAt (h : HeadReplaced k bs s t) {i : Nat} (hi : i < k) : t.byteAt i = bs.getD i 0 := by
  rw [← h.head, List.getD_eq_getElem _ _ (by simpa using hi), State.memRead_getElem, Nat.zero_add]

end HeadReplaced

/-! ## Frames -/

theorem payloadOf_getD (f : Bytes) (l : Nat) {n i : Nat} (hi : i < n) :
    (payloadOf f l n).getD i 0 = f.getD (l + i) 0 := by
  simp [payloadOf_eq, hi]

theorem parseHeader_ne_notAligned {f : Bytes} {e : CmdError} (h3 : f.length % 3 = 0)
    (h : parseHeader f = .error e) (m : Nat) : e ≠ .notAligned m := by
  cases hd : vlqDecode f with
  | bad sub off =>
    obtain rfl := Except.error.inj (h.symm.trans (parseHeader_of_bad h3 hd))
    nofun
  | ok n k =>
    by_cases hn : paddedSize n = f.length
    · cases h.symm.trans (parseHeader_eq_ok_iff.mpr ⟨h3, ⟨k, hd⟩, hn, rfl⟩)
    · obtain rfl := Except.error.inj (h.symm.trans (parseHeader_of_unexpected h3 hd hn))
      nofun

theorem parseFrame_ne_notAligned {f : Bytes} {e : CmdError} (h3 : f.length % 3 = 0)
    (h : parseFrame f = .error e) (m : Nat) : e ≠ .notAligned m := by
  rcases parseFrame_eq_error h with hheader | ⟨off, -, rfl⟩
  · exact parseHeader_ne_notAligned h3 hheader m
  · nofun

theorem buildFrame_memRead_length (s : State) :
    (buildFrame (s.memRead 0 s.len.toNat)).length = paddedSize s.len.toNat := by
  rw [buildFrame_length (by simpa using s.len.isLt), State.memRead_length]

theorem parseFrame_buildFrame_memRead (s : State) :
    parseFrame (buildFrame (s.memRead 0 s.len.toNat)) =
      .ok (prefixSize s.len.toNat, s.len.toNat) := by
  have h := parseFrame_buildFrame (p := s.memRead 0 s.len.toNat) (by simpa using s.len.isLt)
  rwa [State.memRead_length] at h

theorem payloadOf_buildFrame_memRead (s : State) :
    payloadOf (buildFrame (s.memRead 0 s.len.toNat)) (prefixSize s.len.toNat) s.len.toNat =
      s.memRead 0 s.len.toNat := by
  have h := payloadOf_buildFrame (p := s.memRead 0 s.len.toNat) (by simpa using s.len.isLt)
  rwa [State.memRead_length] at h

/-! ## How ENCODE completes -/

theorem Succeeded.err_eq_false {s t : State} (h : Succeeded s t) : t.err = false := by
  obtain ⟨⟨-, -, -, herr, -⟩, -⟩ := h
  exact herr

/-- What ENCODE leaves of a payload that is not empty and whose frame fits (43_orchestration.md
R190). -/
def EncodesInput (s t : State) : Prop :=
  Succeeded s t ∧ t.rlen.toNat = paddedSize s.len.toNat ∧ t.value = s.value ∧ t.poff = s.poff ∧
    t.plen = s.plen ∧
    HeadReplaced (paddedSize s.len.toNat) (mix (buildFrame (s.memRead 0 s.len.toNat))) s t

theorem execEncode_of_empty {s : State} (h0 : s.len.toNat = 0) :
    exec .encode s = .next (s.setRlen 0).completed := by
  obtain ⟨t, ht, ⟨hlt, -⟩ | ⟨-, rfl⟩ | ⟨-, hne, -⟩ | ⟨-, hne, -⟩⟩ := execEncode_cases s
  · omega
  · exact ht
  · exact absurd h0 hne
  · exact absurd h0 hne

theorem execEncode_of_fits {s : State} (hcap : s.CapOk) (h1 : 1 ≤ s.len.toNat)
    (hfit : paddedSize s.len.toNat ≤ s.bufCap) :
    ∃ t, exec .encode s = .next t ∧ EncodesInput s t := by
  have hsize := add_two_le_paddedSize s.len.toNat
  obtain ⟨t, ht, ⟨hlt, -⟩ | ⟨h0, -⟩ | ⟨-, -, hbig, -⟩ | ⟨-, -, -, rfl⟩⟩ := execEncode_cases s
  · omega
  · omega
  · omega
  · have hlen : (mix (buildFrame (s.memRead 0 s.len.toNat))).length = paddedSize s.len.toNat := by
      rw [mix_length, buildFrame_memRead_length]
    exact ⟨_, ht, .memWrite_setRlen_completed .., word_toNat_of_le_cap hcap hfit, by simp, by simp,
      by simp, (HeadReplaced.memWrite s hlen).congr_right (.setRlen_completed _ _)⟩

/-! ## How DECODE and DECODE_VIEW complete -/

/-- What DECODE and DECODE_VIEW validate (43_orchestration.md R191). -/
def State.candidate (s : State) : Bytes := mix (s.memRead 0 s.len.toNat)

@[simp] theorem State.candidate_length (s : State) : s.candidate.length = s.len.toNat := by
  simp [State.candidate]

/-- The input is a blob that DECODE and DECODE_VIEW unmix: it fits, it is aligned and it is not
empty. -/
structure State.HoldsBlob (s : State) : Prop where
  pos : 1 ≤ s.len.toNat
  fits : s.len.toNat ≤ s.bufCap
  aligned : s.len.toNat % 3 = 0

section
variable {s e : State} {m : State → Bytes → Nat → Nat → State}

theorem State.unmix_of_long (h : s.bufCap < s.len.toNat) :
    s.unmix e m = s.raised (.range 1 s.len.toNat) := by
  obtain ⟨-, hu⟩ | ⟨hle, -⟩ | ⟨h0, -⟩ | ⟨hle, -⟩ := s.unmix_cases e m
  · exact hu
  all_goals omega

theorem State.unmix_of_notAligned (hle : s.len.toNat ≤ s.bufCap) (hne : s.len.toNat % 3 ≠ 0) :
    s.unmix e m = s.raised (.notAligned s.len.toNat) := by
  obtain ⟨hlt, -⟩ | ⟨-, -, hu⟩ | ⟨h0, -⟩ | ⟨-, h3, -⟩ := s.unmix_cases e m
  case inr.inl => exact hu
  all_goals omega

theorem State.unmix_of_empty (h0 : s.len.toNat = 0) : s.unmix e m = e.completed := by
  obtain ⟨hlt, -⟩ | ⟨-, hne, -⟩ | ⟨-, hu⟩ | ⟨-, -, hne, -⟩ := s.unmix_cases e m
  case inr.inr.inl => exact hu
  all_goals omega

/-- Past the checks of LEN, what is left is to report the error of `ParseFrame` or to accept. -/
theorem State.HoldsBlob.unmix_cases (h : s.HoldsBlob) :
    (∃ err, parseFrame s.candidate = .error err ∧
        s.unmix e m = (s.memWrite 0 s.candidate).raised err) ∨
      ∃ l n, parseFrame s.candidate = .ok (l, n) ∧
        s.unmix e m = (m (s.memWrite 0 s.candidate) s.candidate l n).completed := by
  obtain ⟨h1, hle, h3⟩ := h
  obtain ⟨hlt, -⟩ | ⟨-, hne, -⟩ | ⟨h0, -⟩ | ⟨-, -, -, f, rfl, hu⟩ := s.unmix_cases e m
  case inr.inr.inr => exact hu
  all_goals omega

theorem State.HoldsBlob.unmix_of_error (h : s.HoldsBlob) {err : CmdError}
    (herr : parseFrame s.candidate = .error err) :
    s.unmix e m = (s.memWrite 0 s.candidate).raised err := by
  obtain ⟨err', herr', hu⟩ | ⟨l, n, hok, -⟩ := h.unmix_cases (e := e) (m := m)
  · obtain rfl := Except.error.inj (herr'.symm.trans herr)
    exact hu
  · cases hok.symm.trans herr

theorem State.HoldsBlob.unmix_of_ok (h : s.HoldsBlob) {l n : Nat}
    (hok : parseFrame s.candidate = .ok (l, n)) :
    s.unmix e m = (m (s.memWrite 0 s.candidate) s.candidate l n).completed := by
  obtain ⟨err, herr, -⟩ | ⟨l', n', hok', hu⟩ := h.unmix_cases (e := e) (m := m)
  · cases herr.symm.trans hok
  · obtain ⟨rfl, rfl⟩ := Prod.mk.inj (Except.ok.inj (hok'.symm.trans hok))
    exact hu

end

theorem State.headReplaced_candidate (s : State) :
    HeadReplaced s.len.toNat s.candidate s (s.memWrite 0 s.candidate) :=
  .memWrite s s.candidate_length

/-- The sizes that `ParseFrame` finds in the candidate fit their registers. -/
theorem State.candidate_sizes {s : State} {l n : Nat} (hok : parseFrame s.candidate = .ok (l, n)) :
    l < 2 ^ 64 ∧ n < s.len.toNat ∧ n < 2 ^ 64 := by
  have hword := s.len.isLt
  have hC := checksumSize_bounds n
  have hin := parseHeader_ok_length (parseFrame_eq_ok_iff.mp hok).1
  rw [State.candidate_length] at hin
  omega

section
variable {i : Instr} {s : State} (hi : i = .decode ∨ i = .decodeView)
include hi

/-- Both commands unmix the blob; they differ in what they make of an empty one and of a frame. -/
theorem exec_eq_unmix (s : State) : ∃ e m, exec i s = .next (s.unmix e m) := by
  rcases hi with rfl | rfl
  · exact ⟨_, _, execDecode_spec s⟩
  · exact ⟨_, _, execDecodeView_spec s⟩

theorem exec_unmix_of_long (h : s.bufCap < s.len.toNat) :
    ∃ t, exec i s = .next t ∧ Failed (.range 1 s.len.toNat) s t ∧ SameBytes s t := by
  obtain ⟨e, m, hexec⟩ := exec_eq_unmix hi s
  rw [State.unmix_of_long h] at hexec
  exact ⟨_, hexec, .raised_self s (reportFits_range (by decide)), .raised s _⟩

theorem exec_unmix_of_notAligned (hle : s.len.toNat ≤ s.bufCap) (hne : s.len.toNat % 3 ≠ 0) :
    ∃ t, exec i s = .next t ∧ Failed (.notAligned s.len.toNat) s t ∧ SameBytes s t := by
  obtain ⟨e, m, hexec⟩ := exec_eq_unmix hi s
  rw [State.unmix_of_notAligned hle hne] at hexec
  exact ⟨_, hexec, .raised_self s (reportFits_notAligned s.len.isLt), .raised s _⟩

/-- A candidate that is no frame stays in BUF (43_orchestration.md R191, R192). -/
theorem exec_unmix_of_error (h : s.HoldsBlob) {err : CmdError}
    (herr : parseFrame s.candidate = .error err) :
    ∃ t, exec i s = .next t ∧ Failed err s t ∧ HeadReplaced s.len.toNat s.candidate s t := by
  obtain ⟨e, m, hexec⟩ := exec_eq_unmix hi s
  rw [h.unmix_of_error herr] at hexec
  have hfits : ReportFits err := reportFits_of_parseFrame (by simpa using s.len.isLt) herr
  exact ⟨_, hexec, .raised (by simp [KeepsControl]) (by simp [KeepsResults]) hfits,
    s.headReplaced_candidate.congr_right (.raised _ _)⟩

end

theorem SameBytes.setRlen_setPlen_completed (s : State) (v w : Word) :
    SameBytes s ((s.setRlen v).setPlen w).completed := State.byteAt_congr rfl rfl

/-- What DECODE leaves of a blob whose candidate is a frame: the payload moved to the head of BUF, over
the candidate (43_orchestration.md R191). -/
def ExtractsPayload (l n : Nat) (s t : State) : Prop :=
  Succeeded s t ∧ t.rlen = word n ∧ t.plen = word n ∧ t.value = s.value ∧ t.poff = s.poff ∧
    HeadReplaced n (payloadOf s.candidate l n) (s.memWrite 0 s.candidate) t

theorem execDecode_of_ok {s : State} (h : s.HoldsBlob) {l n : Nat}
    (hok : parseFrame s.candidate = .ok (l, n)) :
    ∃ t, exec .decode s = .next t ∧ ExtractsPayload l n s t := by
  have hexec := execDecode_spec s
  rw [h.unmix_of_ok hok] at hexec
  have hpay := payloadOf_length_of_header (parseFrame_eq_ok_iff.mp hok).1
  exact ⟨_, hexec, .completed (by simp [KeepsControl]) (by simp [KeepsInfo]), by simp, by simp,
    by simp, by simp, (HeadReplaced.memWrite _ hpay).congr_right (.setRlen_setPlen_completed _ _ _)⟩

/-- What DECODE_VIEW leaves of a blob whose candidate is a frame (43_orchestration.md R192). -/
def LeavesFrame (l n : Nat) (s t : State) : Prop :=
  Succeeded s t ∧ t.rlen = s.len ∧ t.poff = word l ∧ t.plen = word n ∧ t.value = s.value ∧
    HeadReplaced s.len.toNat s.candidate s t

theorem execDecodeView_of_ok {s : State} (h : s.HoldsBlob) {l n : Nat}
    (hok : parseFrame s.candidate = .ok (l, n)) :
    ∃ t, exec .decodeView s = .next t ∧ LeavesFrame l n s t := by
  have hexec := execDecodeView_spec s
  rw [h.unmix_of_ok hok, State.candidate_length] at hexec
  exact ⟨_, hexec, .memWrite_setFrame_completed .., word_toNat_self s.len, by simp,
    by simp, by simp, s.headReplaced_candidate.congr_right (.setFrame_completed _ _ _ _)⟩

/-! ## One command after the other -/

/-- MIX on the unmixed candidate, from any state that holds it, succeeds and gives the blob back
(42_diffuser.md R178). -/
theorem execMix_of_candidate {s t t' : State} (h : s.HoldsBlob)
    (ht : HeadReplaced s.len.toNat s.candidate s t) (hsame : SameBytes t t') (hlen : t'.len = s.len)
    (hcap : t'.bufCap = s.bufCap) :
    ∃ u, exec .mix t' = .next u ∧ u.err = false ∧ SameBytes s u := by
  have hfits : t'.len.toNat ≤ t'.bufCap := hlen ▸ hcap ▸ h.fits
  obtain ⟨u, hu, hbytes⟩ := execMix_restores h.fits h.aligned ht.head ht.tail hsame hlen hcap
  obtain ⟨u', hu', hdone, -⟩ := execMix_of_aligned hfits (hlen ▸ h.aligned)
  obtain rfl := Host.Outcome.next.inj (hu'.symm.trans hu)
  exact ⟨u', hu, hdone.err_eq_false, hbytes⟩

/-- ENCODE's result with LEN set to its RLEN: a blob whose candidate is the built frame. -/
theorem EncodesInput.holdsBlob {s t t' : State} (h : EncodesInput s t)
    (hfit : paddedSize s.len.toNat ≤ s.bufCap) (hsame : SameBytes t t') (hlen : t'.len = t.rlen)
    (hcap : t'.bufCap = t.bufCap) :
    t'.HoldsBlob ∧ t'.candidate = buildFrame (s.memRead 0 s.len.toNat) := by
  obtain ⟨⟨⟨-, -, -, -, -, -, -, -, -, hbufCap, -⟩, -⟩, hrlen, -, -, -, hhead⟩ := h
  have hsize := add_two_le_paddedSize s.len.toNat
  have h3 := paddedSize_mod_three s.len.toNat
  have hlen' : t'.len.toNat = paddedSize s.len.toNat := by rw [hlen, hrlen]
  refine ⟨⟨by omega, by omega, by omega⟩, ?_⟩
  rw [State.candidate, hlen', (hhead.congr_right hsame).head,
    mix_mix (by rw [buildFrame_memRead_length, h3])]

/-! ## The obligations -/

/-- Settles O50: the four ends of the command, each ruling out the premises of the others. -/
theorem encodeFollowsItsRule : Obligations.EncodeFollowsItsRule := by
  refine ⟨decodeCommand_eq_some_iff_encode.mpr rfl, fun s hcap => ⟨fun hlt => ?_, fun h0 => ?_,
    fun h1 hle hbig => ?_, fun h1 hfit => ?_⟩⟩
  · obtain ⟨t, ht, ⟨-, rfl⟩ | ⟨h0, -⟩ | ⟨hle, -⟩ | ⟨hle, -⟩⟩ := execEncode_cases s
    · exact ⟨_, ht, .raised_self s (reportFits_range (by decide)), .raised s _⟩
    all_goals omega
  · exact ⟨_, execEncode_of_empty h0, .completed (by simp [KeepsControl]) (by simp [KeepsInfo]),
      rfl, rfl, rfl, rfl, .setRlen_completed s 0⟩
  · obtain ⟨t, ht, ⟨hlt, -⟩ | ⟨h0, -⟩ | ⟨-, -, -, rfl⟩ | ⟨-, -, hfit, -⟩⟩ := execEncode_cases s
    case inr.inr.inl =>
      exact ⟨_, ht, .raised_self s (reportFits_range (by decide)), .raised s _⟩
    all_goals omega
  · obtain ⟨t, ht, hdone, hrlen, hvalue, hpoff, hplen, hhead, htail⟩ :=
      execEncode_of_fits hcap h1 hfit
    exact ⟨t, ht, hdone, hrlen, hvalue, hpoff, hplen, hhead, htail⟩

/-- Settles O51: the bytes of the payload region by the second write, those behind it by the first. -/
theorem decodeFollowsItsRule : Obligations.DecodeFollowsItsRule := by
  refine ⟨decodeCommand_eq_some_iff_encode.mpr rfl, fun s _ => ⟨exec_unmix_of_long (.inl rfl),
    exec_unmix_of_notAligned (.inl rfl), fun h0 => ?_, ?_⟩⟩
  · exact ⟨_, (execDecode_spec s).trans (congrArg _ (State.unmix_of_empty h0)),
      .completed (by simp [KeepsControl]) (by simp [KeepsInfo]), rfl, rfl, rfl, rfl,
      .setRlen_setPlen_completed s 0 0⟩
  · rintro f h1 hle h3 rfl
    have hblob : s.HoldsBlob := ⟨h1, hle, h3⟩
    refine ⟨fun e he => ⟨parseFrame_ne_notAligned (by simpa using h3) he, ?_⟩, fun l n hok => ?_⟩
    · obtain ⟨t, ht, hfail, hhead, htail⟩ := exec_unmix_of_error (.inl rfl) hblob he
      exact ⟨t, ht, hfail, hhead, htail⟩
    · obtain ⟨-, hlt, hn⟩ := State.candidate_sizes hok
      obtain ⟨t, ht, hdone, hrlen, hplen, hvalue, hpoff, hmoved⟩ := execDecode_of_ok hblob hok
      refine ⟨t, ht, hdone, hrlen ▸ word_toNat hn, hplen ▸ word_toNat hn, hvalue, hpoff,
        fun i hi => ?_, fun i hni hi => ?_, fun i hi => ?_⟩
      · exact (hmoved.byteAt hi).trans (payloadOf_getD _ _ hi)
      · exact (hmoved.tail i hni).trans (s.headReplaced_candidate.byteAt hi)
      · exact (hmoved.tail i (by omega)).trans (s.headReplaced_candidate.tail i hi)

/-- Settles O52: the errors are those of DECODE, and success writes nothing over the candidate. -/
theorem decodeViewFollowsItsRule : Obligations.DecodeViewFollowsItsRule := by
  refine ⟨decodeCommand_eq_some_iff_encode.mpr rfl, fun s _ => ⟨exec_unmix_of_long (.inr rfl),
    exec_unmix_of_notAligned (.inr rfl), fun h0 => ?_, ?_⟩⟩
  · exact ⟨_, (execDecodeView_spec s).trans (congrArg _ (State.unmix_of_empty h0)),
      .completed (by simp [KeepsControl]) (by simp [KeepsInfo]), by simp [KeepsResults],
      State.byteAt_congr rfl rfl⟩
  · rintro f h1 hle h3 rfl
    have hblob : s.HoldsBlob := ⟨h1, hle, h3⟩
    refine ⟨fun e he => ⟨parseFrame_ne_notAligned (by simpa using h3) he, ?_⟩, fun l n hok => ?_⟩
    · obtain ⟨t, ht, hfail, hhead, htail⟩ := exec_unmix_of_error (.inr rfl) hblob he
      exact ⟨t, ht, hfail, hhead, htail⟩
    · obtain ⟨hl, -, hn⟩ := State.candidate_sizes hok
      obtain ⟨t, ht, hdone, hrlen, hpoff, hplen, hvalue, hhead, htail⟩ :=
        execDecodeView_of_ok hblob hok
      exact ⟨t, ht, hdone, hrlen, hpoff ▸ word_toNat hl, hplen ▸ word_toNat hn, hvalue, hhead,
        htail⟩

/-- Settles O53: the failed command left the unmixed candidate, and Mix is an involution. -/
theorem mixRestoresBlobAfterFailedDecode : Obligations.MixRestoresBlobAfterFailedDecode := by
  intro i s t t' e hi _ h1 hle h3 he ht hsame hlen hcap
  have hblob : s.HoldsBlob := ⟨h1, hle, h3⟩
  obtain ⟨t₀, ht₀, -, hleft⟩ := exec_unmix_of_error hi hblob he
  obtain rfl := Host.Outcome.next.inj (ht₀.symm.trans ht)
  exact execMix_of_candidate hblob hleft hsame hlen hcap

/-- Settles O54: the empty payload has the empty blob; any other is found in the frame that unmixing
ENCODE's blob gives back. -/
theorem encodeDecodeRoundTrip : Obligations.EncodeDecodeRoundTrip := by
  intro s hcap hfit
  rcases Nat.eq_zero_or_pos s.len.toNat with h0 | h1
  · have hzero : s.len = 0 := BitVec.eq_of_toNat_eq h0
    refine ⟨_, execEncode_of_empty h0, rfl, fun t' _ hlen _ => ⟨?_, fun h1 => by omega⟩⟩
    have hempty : t'.len.toNat = 0 := by simp [hlen]
    refine ⟨_, (execDecode_spec t').trans (congrArg _ (State.unmix_of_empty hempty)), rfl, ?_, ?_⟩
    · exact hzero.symm
    · rw [h0]
      rfl
  · have hfit : paddedSize s.len.toNat ≤ s.bufCap := hfit.resolve_left (by omega)
    obtain ⟨t, ht, hencoded⟩ := execEncode_of_fits hcap h1 hfit
    refine ⟨t, ht, hencoded.1.err_eq_false, fun t' hsame hlen hcap' => ?_⟩
    obtain ⟨hblob, hframe⟩ := hencoded.holdsBlob hfit hsame hlen hcap'
    have hok := hframe ▸ parseFrame_buildFrame_memRead s
    have hpay := hframe ▸ payloadOf_buildFrame_memRead s
    refine ⟨?_, fun _ => ?_⟩
    · obtain ⟨u, hu, hdone, hrlen, -, -, -, hmoved⟩ := execDecode_of_ok hblob hok
      exact ⟨u, hu, hdone.err_eq_false, hrlen.trans (word_toNat_self _), hmoved.head.trans hpay⟩
    · obtain ⟨u, hu, hdone, -, hpoff, hplen, -, hleft⟩ := execDecodeView_of_ok hblob hok
      refine ⟨u, hu, hdone.err_eq_false, hpoff ▸ prefixSize_word s.len.isLt,
        hplen.trans (word_toNat_self _), ?_⟩
      have hin := parseHeader_ok_length (parseFrame_eq_ok_iff.mp hok).1
      rw [State.candidate_length] at hin
      rw [← u.payloadOf_memRead (k := t'.len.toNat) (by omega), hleft.head, hpay]

end Sys2Proof.Machine

/-! # Exceptions: settling the family of 60_exceptions.md

The access errors, and the steps of the block's turn by what it finds; then what the VLQ decoder answers
behind a run of bytes with CONT = 1, which is where each of its errors is found. -/

namespace Sys2Proof.Machine

/-! ## Access errors and the block's turn -/

/-- The bus turns down access errors only (20_memory.md R55). -/
theorem access_eq_false_of_busOp {cap : Nat} {a : Access} (h : busOp cap a = none) :
    WellFormed.access cap a = false := by
  rw [← busOp_isSome, h]
  rfl

section
variable {s : State}

/-- While IDLE the block's turn is taken and nothing else happens (60_exceptions.md R219; log 10). -/
theorem step_of_idle (hb : s.busy = false) (hturn : BlockTurn s) : step s = .next s.nextTurn := by
  rw [step_of_blockTurn hturn]
  rcases blockStep_cases s.nextTurn with ⟨-, hidle⟩ | ⟨_, hbusy, -⟩ | ⟨hbusy, -⟩
  · exact hidle
  · cases hbusy.symm.trans hb
  · cases hbusy.symm.trans hb

/-- A pending illegal word is completed with ILLEGAL_COMMAND (30_encoding.md R75). -/
theorem step_of_illegal (hb : s.busy = true) (hturn : BlockTurn s)
    (hill : decodeCommand s.pending = none) :
    step s = .next (s.nextTurn.raised (.illegalCommand s.pending)) := by
  rw [step_of_blockTurn hturn]
  rcases blockStep_cases s.nextTurn with ⟨hidle, -⟩ | ⟨i, -, hdec, -⟩ | ⟨-, -, hraised⟩
  · cases hidle.symm.trans hb
  · cases hdec.symm.trans hill
  · exact hraised

/-- At the block's turn there is a next state, idle or not, whatever is pending
(10_state.md R43; 60_exceptions.md R220). -/
theorem step_next_of_blockTurn (hturn : BlockTurn s) : ∃ t, step s = .next t := by
  cases hb : s.busy with
  | false => exact ⟨_, step_of_idle hb hturn⟩
  | true => exact (step_completes hb hturn).imp fun _ h => h.1

end

/-! ## The decoder behind bytes with CONT = 1 -/

/-- Bytes with CONT = 1 are passed over, as far as there are turns left; only the value so far
depends on them (40_vlq.md R103). -/
theorem vlqDecodeLoop_append_cont (left j w : Nat) {p : Bytes} (hp : ∀ b ∈ p, b.getLsbD 7 = true)
    (t : Bytes) : ∃ w', vlqDecodeLoop (left + p.length) j w (p ++ t) =
      vlqDecodeLoop left (j + p.length) w' t := by
  induction p generalizing j w with
  | nil => exact ⟨w, rfl⟩
  | cons b p ih =>
    obtain ⟨hb, hp⟩ := List.forall_mem_cons.mp hp
    obtain ⟨w', ih⟩ := ih (j + 1) (w + b.toNat % 128 * 2 ^ (7 * j)) hp
    refine ⟨w', ?_⟩
    rw [List.length_cons, ← Nat.add_assoc, List.cons_append,
      vlqDecodeLoop_of_cont _ j w _ (cont_iff.mp hb), ih, Nat.add_right_comm, Nat.add_assoc j]

section
variable {s : Bytes} {k : Nat}

/-- With CONT = 1 in the first `k` bytes, the answer is found from byte `k` on. -/
theorem vlqDecode_eq_drop (hk : k ≤ 10) (hlen : k ≤ s.length)
    (hcont : ∀ b ∈ s.take k, b.getLsbD 7 = true) :
    ∃ w, vlqDecode s = vlqDecodeLoop (10 - k) k w (s.drop k) := by
  have hloop := vlqDecodeLoop_append_cont (10 - k) 0 0 hcont (s.drop k)
  rwa [List.take_append_drop, List.length_take_of_le hlen, Nat.sub_add_cancel hk, Nat.zero_add]
    at hloop

/-- Where byte `k` is the first with CONT = 0, what it says of the answer (40_vlq.md R103). -/
theorem vlqDecode_of_last (hk : k ≤ 9) (hlen : k < s.length)
    (hcont : ∀ b ∈ s.take k, b.getLsbD 7 = true) (hlast : (s.getD k 0).toNat < 128) :
    ∃ v, vlqDecode s =
      if k = 9 ∧ 1 < (s.getD k 0).toNat then .bad 2 9
      else if 1 ≤ k ∧ (s.getD k 0).toNat = 0 then .bad 3 k
      else .ok v (k + 1) := by
  obtain ⟨w, hloop⟩ := vlqDecode_eq_drop (by omega) hlen.le hcont
  have hdrop : s.drop k = s.getD k 0 :: s.drop (k + 1) := by
    rw [List.getD_eq_getElem s 0 hlen, List.drop_eq_getElem_cons hlen]
  rw [hdrop, show 10 - k = 9 - k + 1 by omega, vlqDecodeLoop_of_last _ k w _ hlast] at hloop
  exact ⟨_, hloop⟩

/-- Subcode 1: the bytes end before one has CONT = 0 (60_exceptions.md R205). -/
theorem vlqDecode_of_unterminated (hlen : s.length < 10) (hcont : ∀ b ∈ s, b.getLsbD 7 = true) :
    vlqDecode s = .bad 1 s.length := by
  obtain ⟨w, hloop⟩ := vlqDecode_eq_drop hlen.le le_rfl
    fun b hb => hcont b (List.mem_of_mem_take hb)
  rw [hloop, List.drop_length, show 10 - s.length = 9 - s.length + 1 by omega]
  rfl

/-- Subcode 2: ten bytes and CONT = 1 in all of them (60_exceptions.md R205). -/
theorem vlqDecode_of_ten_cont (hlen : 10 ≤ s.length)
    (hcont : ∀ b ∈ s.take 10, b.getLsbD 7 = true) : vlqDecode s = .bad 2 9 := by
  obtain ⟨w, hloop⟩ := vlqDecode_eq_drop le_rfl hlen hcont
  exact hloop

/-- Subcode 2: the tenth byte ends the value above bit 63 (60_exceptions.md R205). -/
theorem vlqDecode_of_overflow (hlen : 10 ≤ s.length) (hcont : ∀ b ∈ s.take 9, b.getLsbD 7 = true)
    (hlast : (s.getD 9 0).getLsbD 7 = false) (hlarge : 1 < (s.getD 9 0).toNat) :
    vlqDecode s = .bad 2 9 := by
  have hlt : (s.getD 9 0).toNat < 128 :=
    not_le.mp fun h => by cases hlast.symm.trans (cont_iff.mpr h)
  obtain ⟨v, hv⟩ := vlqDecode_of_last le_rfl hlen hcont hlt
  rw [hv, if_pos ⟨rfl, hlarge⟩]

/-- Subcode 3: a zero byte ends the value behind another byte (60_exceptions.md R205). -/
theorem vlqDecode_of_overlong (hpos : 1 ≤ k) (hk : k ≤ 9) (hlen : k < s.length)
    (hcont : ∀ b ∈ s.take k, b.getLsbD 7 = true) (hzero : s.getD k 0 = 0) :
    vlqDecode s = .bad 3 k := by
  have hnat : (s.getD k 0).toNat = 0 := by rw [hzero]; rfl
  obtain ⟨v, hv⟩ := vlqDecode_of_last hk hlen hcont (by omega)
  rw [hv, if_neg (by omega), if_pos ⟨hpos, hnat⟩]

end

/-! ## The obligations -/

/-- Settles O5, by whose turn it is: the bus faults on access errors only, and the platform and the
block always have a next state. -/
theorem onlyAccessErrorsStop : Obligations.OnlyAccessErrorsStop := by
  intro s
  rcases step_cases s with ⟨a, r, hturns, hs⟩ | ⟨r, -, hs⟩ | ⟨hturn, -⟩
  · rcases hostStep_cases a s.nextTurn with ⟨hop, hfault⟩ | ⟨op, -, hnext⟩
    · exact .inr ⟨a, r, hturns, access_eq_false_of_busOp hop, hs.trans hfault⟩
    · exact .inl ⟨_, hs.trans hnext⟩
  · exact .inl ⟨_, hs⟩
  · exact .inl (step_next_of_blockTurn hturn)

/-- Settles O29, each cause by the byte at which the decoder finds it. -/
theorem vlqDecodeErrors : Obligations.VlqDecodeErrors := fun _ =>
  ⟨vlqDecode_of_unterminated, vlqDecode_of_ten_cont, vlqDecode_of_overflow,
    fun _ => vlqDecode_of_overlong⟩

/-- Settles O7: the step raises ILLEGAL_COMMAND, which leaves LASTOP as the acceptance set it. -/
theorem illegalWordCompletesWithError : Obligations.IllegalWordCompletesWithError := by
  intro s hb hturn hill
  refine ⟨_, step_of_illegal hb hturn (decodeCommand_eq_none_iff.mpr hill), ?_, rfl, rfl,
    State.byteAt_congr rfl rfl, fun hinv => hinv.busyLastop hb⟩
  exact .raised_self s.nextTurn ⟨s.pending.isLt, Nat.two_pow_pos 64, Nat.two_pow_pos 64⟩

/-- Settles O8: the idle block's step. -/
theorem idleBlockTurnKeepsState : Obligations.IdleBlockTurnKeepsState :=
  fun _ hb hturn => step_of_idle hb hturn

end Sys2Proof.Machine

/-! # Resets and hazards: settling the family of 70_reset_and_hazards.md

Power-on reset against the reset state, and the host's accesses against the pending command; the steps
themselves are given by `step_of_powerOn` and `step_of_calmHost`. -/

namespace Sys2Proof.Machine

/-- Power-on reset keeps BUF_CAP and the model's own records; everything else is the reset state's,
and BUF is another drawing (70_reset_and_hazards.md R230; log 1). -/
theorem State.powerOnReset_eq_reset (s : State) :
    s.powerOnReset = { State.reset with
      buf := [], bufCap := s.bufCap, bufDraw := s.bufDraw + 1, readDraw := s.readDraw,
      turns := s.turns, hostReads := s.hostReads } := by
  unfold State.powerOnReset State.drawBuf
  rw [State.clearRegisters_eq_reset]

/-- Settles O11: the host's step while BUSY keeps what `PendingKept` lists, and BUF with it. -/
theorem hostCannotDisturbPendingCommand : Obligations.HostCannotDisturbPendingCommand := by
  intro s a r hb hturns hcalm
  obtain ⟨t, hstep, hkept, hrest⟩ := step_of_calmHost hb hturns hcalm
  exact ⟨t, hstep, hkept.busy.trans hb, hkept.pending, hkept.lastop, hkept.len, hkept.results,
    hkept.info, hkept.errcode, hkept.err, hkept.bufCap, hkept.sameBytes, hrest⟩

/-- Settles O17: the platform's step is power-on reset, which ends in a drawing of BUF. -/
theorem powerOnTurnResets : Obligations.PowerOnTurnResets := by
  intro s r hturns
  refine ⟨_, step_of_powerOn hturns, State.powerOnReset_eq_reset _, Nat.succ_ne_self _, ?_⟩
  exact State.byteAt_drawBuf { s with turns := r }.clearRegisters

end Sys2Proof.Machine
